-- ==== Sys2Proof/Word.lean ====
section
/-! DEFINITION. The word types of the machine: what the spec treats as bit vectors (00_scope.md rules R9, R13). -/

namespace Sys2Proof

/-- A byte of memory or of an instruction. -/
abbrev Byte := BitVec 8
/-- A 32-bit value: the low half of a general register (10_state.md R31). -/
abbrev Word32 := BitVec 32
/-- A 64-bit value: a general register, an MSR, a linear address (10_state.md R31, R47). -/
abbrev Word64 := BitVec 64
/-- A vector register at its full width `MAXVL` (10_state.md R40, 92_eei_decisions.md D5). -/
abbrev Vec := BitVec 512
/-- A general register number, 0 to 15 (10_state.md R31). -/
abbrev GReg := BitVec 4
/-- A vector register number, 0 to 31 (10_state.md R40). -/
abbrev VReg := BitVec 5
/-- An opmask register number, 0 to 7 (10_state.md R42). -/
abbrev KReg := BitVec 3

end Sys2Proof
end

