-- ==== Sys2Proof/Config.lean ====
section
/-! DEFINITION. What an implementation fixes (plain data, held in `State.cfg`) and the free values of the spec
(opaque constants with no body: no proof can know what they are). 00_scope.md rules R7, R8, R14 (`any`, `cfg`);
92_eei_decisions.md section 2. -/

namespace Sys2Proof

/-- One Boolean per extension whose presence a rule tests (00_scope.md R7; 40_cpuid_instruction.md R236). -/
structure Features where
  sse : Bool
  avx : Bool
  avx512f : Bool
  avx512vl : Bool
  avx512bw : Bool
  vbmi2 : Bool
  gfni : Bool
  vaes : Bool
  vpclmulqdq : Bool
  vnni : Bool
  bitalg : Bool
  vpopcntdq : Bool
  waitpkg : Bool
  cldemote : Bool
  movdiri : Bool
  movdir64b : Bool
  pconfig : Bool
  wbnoinvd : Bool
  /-- Hardware feedback interface, CPUID.06H:EAX[19] (R236, 41_cpuid_leaves.md R266). -/
  hfi : Bool
  /-- Split lock detection: not enumerated by CPUID (91_not_in_source.md N53-1). -/
  splitLock : Bool
  /-- Sub-page permissions (50_ept_sub_page_permissions.md R521; 92_eei_decisions.md section 2). -/
  spp : Bool
  /-- The Intel PT controls of VMX (51_intel_pt_vmx.md R544; 92_eei_decisions.md section 2). -/
  ptVmx : Bool
  deriving DecidableEq, Repr

/-- The names of the flags of a CPUID feature cell (30_encoding.md R163: every flag of the cell must be 1). -/
inductive Feature
  | sse | avx | avx512f | avx512vl | vbmi2 | gfni | vaes | vpclmulqdq | vnni | bitalg | vpopcntdq
  | waitpkg | cldemote | movdiri | movdir64b | pconfig | wbnoinvd
  deriving DecidableEq, Repr

/-- One row of `cfg.cpuid` (40_cpuid_instruction.md R223): the four output registers for a leaf and a sub-leaf. -/
structure CpuidEntry where
  leaf : Word32
  subleaf : Word32
  eax : Word32
  ebx : Word32
  ecx : Word32
  edx : Word32
  deriving DecidableEq, Repr

/-- What the EPCM denies to an enclave on a 4-KByte page of physical memory: reads, writes, fetches (60_exceptions.md
R620). -/
structure EpcmDenial where
  page : Nat
  read : Bool
  write : Bool
  execute : Bool
  deriving DecidableEq, Repr

/-- The addresses of model-specific registers that the source does not give: the six parameters of 00_scope.md R8. Rules
read the registers by name, so no rule depends on an address (D12, D13). -/
structure MsrAddresses where
  /-- `UMWAIT_CONTROL_ADDR`. -/
  umwaitControl : Word32
  /-- `TME_ACTIVATE_ADDR`. -/
  tmeActivate : Word32
  /-- `TME_CAPABILITY_ADDR`. -/
  tmeCapability : Word32
  /-- `PKG_THERM_STATUS_ADDR`. -/
  pkgThermStatus : Word32
  /-- `PKG_THERM_INTERRUPT_ADDR`. -/
  pkgThermInterrupt : Word32
  /-- `RTIT_CTL_ADDR`. -/
  rtitCtl : Word32
  deriving DecidableEq, Repr

/-- The configuration record `cfg` of 00_scope.md R7 and R8. No step changes it. -/
structure Cfg where
  features : Features
  /-- `cfg.cpuid` as a list; a pair that is not listed answers 0 in all four registers (R224 (c), D19). -/
  cpuid : List CpuidEntry
  /-- The configured highest basic and extended leaf; `Cfg.cpuidMaxBasic` and `Cfg.cpuidMaxExt` are those in force. -/
  highestBasicLeaf : Word32
  highestExtLeaf : Word32
  microcodeRevision : Word32
  /-- The configured width of physical addresses; `Cfg.maxPhyAddr` is the one in force. -/
  physAddrBits : Nat
  /-- The configured width of linear addresses; `Cfg.linAddrBits` is the one in force. -/
  virtAddrBits : Nat
  /-- The configured size of a cache line in bytes; `Cfg.clflushLine` is the one in force. -/
  clflushLineBytes : Nat
  /-- `MONITOR_LINE`, `MONITOR_MIN`, `MONITOR_MAX` in bytes (D38); the model uses the line held between the other two. -/
  monitorLine : Nat
  monitorMin : Nat
  monitorMax : Nat
  /-- `cfg.mktme_target`: the PCONFIG target list of CPUID leaf 1BH contains 1 (41_cpuid_leaves.md R297). -/
  mktmeTarget : Bool
  /-- `SPP_VAPIC_TOGETHER` (D43). -/
  sppVapicTogether : Bool
  /-- `cfg.SPPTP_LOW_CHECKED` (D45). -/
  spptpLowChecked : Bool
  /-- Number of logical processors sharing memory and KEY_TABLE_LOCK, at least 1 (D37). -/
  logicalProcessors : Nat
  /-- The configured size of the hardware feedback structure and row of the logical processor; `Cfg.hfiPages` and
  `Cfg.hfiRow` are those in force. -/
  hfiPageCount : Nat
  hfiRowIndex : Nat
  /-- `in_enclave_range`: physical ranges (first, length) that are enclave memory; empty by default (D30). -/
  enclaveRanges : List (Nat × Nat)
  /-- The pages on which `epcm_allows` is not true of every access; none by default (60_exceptions.md R620). -/
  epcmDenials : List EpcmDenial
  msrAddresses : MsrAddresses
  deriving DecidableEq, Repr

/-- `MAXPHYADDR`, at most 52 (R8). -/
def Cfg.maxPhyAddr (c : Cfg) : Nat := min c.physAddrBits 52

/-- `LINADDR_BITS`, at most the 64 bits of a linear address, so that CPUID's eight bits hold it (R8; 41_cpuid_leaves.md
R304). -/
def Cfg.linAddrBits (c : Cfg) : Nat := min c.virtAddrBits 64

/-- `CLFLUSH_LINE` in bytes: CPUID.01H:EBX[15:8] * 8, so a multiple of 8 up to 2040 (R8; 41_cpuid_leaves.md R253). That a
line has 8 bytes at least, since one of no bytes has no address in it, is DEDUCED (assumption 2). -/
def Cfg.clflushLine (c : Cfg) : Nat := 8 * max 1 (min (c.clflushLineBytes / 8) 255)

/-- `HFI_PAGES`, 1 to 16: what the four bits of CPUID can report (R8; 52_hardware_feedback_interface.md R573). -/
def Cfg.hfiPages (c : Cfg) : Nat := max 1 (min c.hfiPageCount 16)

/-- `HFI_ROW`, a row that lies inside the structure (52_hardware_feedback_interface.md R573). -/
def Cfg.hfiRow (c : Cfg) : Nat := min c.hfiRowIndex ((4096 * c.hfiPages - 16) / 8 - 1)

/-- Does the processor have any instruction of Chapter 2? -/
def anyChapter2 (f : Features) : Bool :=
  f.gfni || f.vaes || f.vpclmulqdq || f.vbmi2 || f.vnni || f.bitalg || f.vpopcntdq || f.waitpkg || f.cldemote ||
    f.movdiri || f.movdir64b || f.pconfig || f.wbnoinvd

/-- The least highest basic leaf with which CPUID can report these features: 1BH with PCONFIG, 07H with an instruction of
Chapter 2 (40_cpuid_instruction.md R231), and for every other flag the leaf of its bit (R236): 0DH with AVX or AVX512F,
whose state components XCR0 needs (41_cpuid_leaves.md R277), 07H with AVX512VL or AVX512BW, 06H with the hardware feedback
interface, 01H always, for OSXSAVE. -/
def leastBasicLeaf (f : Features) : Nat :=
  if f.pconfig then 0x1B
  else if f.avx || f.avx512f then 0xD
  else if anyChapter2 f || f.avx512vl || f.avx512bw then 7
  else if f.hfi then 6
  else 1

/-- `cfg.cpuid_max_basic`: the configured one, but high enough for the features (40_cpuid_instruction.md R231, R236). -/
def Cfg.cpuidMaxBasic (c : Cfg) : Word32 :=
  BitVec.ofNat 32 (max c.highestBasicLeaf.toNat (leastBasicLeaf c.features))

/-- `cfg.cpuid_max_ext`: at least 80000008H with WBNOINVD (40_cpuid_instruction.md R231). -/
def Cfg.cpuidMaxExt (c : Cfg) : Word32 :=
  BitVec.ofNat 32 (max c.highestExtLeaf.toNat (if c.features.wbnoinvd then 0x80000008 else 0))

/-! ### Free values. Each is applied to `State.draws`, which advances, or to the value it judges. -/

/-- `any(Bool)` (00_scope.md R14). -/
opaque Config.drawBool : Nat → Bool
/-- `any(Nat)`: amounts of time and choices among several candidates (D10, D11, D44). -/
opaque Config.drawNat : Nat → Nat
/-- `any(bits 64)`: values the spec leaves open in a 64-bit field. -/
opaque Config.draw64 : Nat → Word64
/-- `any(Option (bits 128))`: one draw of the hardware random number generator (10_state.md R68). -/
opaque Config.drawEntropy : Nat → Option (BitVec 128)
/-- `cfg.RTIT_CTL_VALID`: which IA32_RTIT_CTL values are legal (D47). -/
opaque Config.rtitCtlValid : Word64 → Bool

end Sys2Proof
end

