-- ==== Sys2Proof/Syntax.lean ====
section
/-! DEFINITION. Instructions as syntax: one constructor of `Instr` per row of spec/opcode_table.json (135 rows,
30_encoding.md R204). A byte string that selects a row is that row's instruction even where it breaks a rule that
makes it #UD (R195, R204), so the bits such rules look at are kept here and the meaning judges them. -/

namespace Sys2Proof

/-- The six segment registers (10_state.md R39). -/
inductive Seg | es | cs | ss | ds | fs | gs
  deriving DecidableEq, Repr

/-- What the legacy prefixes before an instruction leave for its meaning (30_encoding.md R164, R176, R198).
`forbidden`: a prefix stood there that makes the instruction #UD (LOCK; before VEX or EVEX also 66H, F2H, F3H, REX).
`addr67`: an address-size prefix. `seg`: the last segment override. -/
structure Pfx where
  forbidden : Bool
  addr67 : Bool
  seg : Option Seg
  deriving DecidableEq, Repr

/-- No prefix at all. -/
def Pfx.none : Pfx := { forbidden := false, addr67 := false, seg := Option.none }

/-- A displacement as encoded; `d8` is scaled by N under EVEX (30_encoding.md R166, R190). -/
inductive Disp
  | none
  | d8 (v : BitVec 8)
  | d16 (v : BitVec 16)
  | d32 (v : BitVec 32)
  deriving DecidableEq, Repr

/-- A ModRM memory operand (30_encoding.md R166). `ripRel` is `mod = 00, rm = 101`: RIP-relative in 64-bit mode, the
displacement alone elsewhere. In `sib` no base is `mod = 00, base = 101`, and index 4 means no index. `a16` is the
16-bit table, by its `rm` value. -/
inductive Mem
  | base (b : GReg) (d : Disp)
  | ripRel (d : BitVec 32)
  | sib (b : Option GReg) (index : GReg) (scale : BitVec 2) (d : Disp)
  | a16 (rm : BitVec 3) (d : Disp)
  | disp16 (d : BitVec 16)
  deriving DecidableEq, Repr

/-- An r/m operand that is a register or memory (ModRM.mod = 11b or not). -/
inductive Rm
  | reg (r : VReg)
  | mem (m : Mem)
  deriving DecidableEq, Repr

/-- The fields of a VEX prefix that do not select the row (30_encoding.md R170): `reg` = R:ModRM.reg, `vvvv` decoded. -/
structure Vex where
  pfx : Pfx
  reg : GReg
  vvvv : GReg
  deriving DecidableEq, Repr

/-- The fields of an EVEX prefix that do not select the row (30_encoding.md R173, R174): `p0res` = P0[3:2],
`p1one` = P1[2], `reg` = R':R:ModRM.reg, `vvvv` = V':vvvv, both decoded from their complements. -/
structure Evex where
  pfx : Pfx
  p0res : BitVec 2
  p1one : Bool
  reg : VReg
  vvvv : VReg
  aaa : KReg
  z : Bool
  b : Bool
  deriving DecidableEq, Repr

/-- What the decoder needs of the machine's mode: 64-bit mode or not, and CS.D (10_state.md R38, R46). -/
structure DecodeMode where
  is64 : Bool
  csD : Bool
  deriving DecidableEq, Repr

/-- The width of an offset (20_memory.md R101). -/
inductive AddrSize | a16 | a32 | a64
  deriving DecidableEq, Repr

/-- The instructions: one constructor per row of spec/opcode_table.json, in the table's order. -/
inductive Instr
  /-- `0F A2`: CPUID (R220). -/
  | cpuid (p : Pfx)
  /-- `NP 0F 1C /0`: CLDEMOTE m8 (R320). -/
  | cldemote (p : Pfx) (m : Mem)
  /-- `NP 0F 38 F9 /r`: MOVDIRI m32, r32 (R325). -/
  | movdiri32 (p : Pfx) (r : GReg) (m : Mem)
  /-- `NP REX.W + 0F 38 F9 /r`: MOVDIRI m64, r64 (R325). -/
  | movdiri64 (p : Pfx) (r : GReg) (m : Mem)
  /-- `66 0F 38 F8 /r`: MOVDIR64B r16/r32/r64, m512 (R333). -/
  | movdir64b (p : Pfx) (r : GReg) (m : Mem)
  /-- `F3 0F 09`: WBNOINVD (R330). -/
  | wbnoinvd (p : Pfx)
  /-- `NP 0F 01 C5`: PCONFIG (R360). -/
  | pconfig (p : Pfx)
  /-- `66 0F AE /6`: TPAUSE r32/r64, <edx>, <eax> (R380). -/
  | tpause (p : Pfx) (r : GReg)
  /-- `F3 0F AE /6`: UMONITOR r16/r32/r64 (R380). -/
  | umonitor (p : Pfx) (r : GReg)
  /-- `F2 0F AE /6`: UMWAIT r32/r64, <edx>, <eax> (R380). -/
  | umwait (p : Pfx) (r : GReg)
  /-- `66 0F3A CE /r /ib`: GF2P8AFFINEQB xmm1, xmm2/m128, imm8 (R345). -/
  | gf2p8affineqb (p : Pfx) (r : GReg) (rm : Rm) (imm : Byte)
  /-- `VEX.NDS.128.66.0F3A.W1 CE /r /ib`: VGF2P8AFFINEQB xmm1, xmm2, xmm3/m128, imm8 (R345). -/
  | vgf2p8affineqbVex128 (v : Vex) (rm : Rm) (imm : Byte)
  /-- `VEX.NDS.256.66.0F3A.W1 CE /r /ib`: VGF2P8AFFINEQB ymm1, ymm2, ymm3/m256, imm8 (R345). -/
  | vgf2p8affineqbVex256 (v : Vex) (rm : Rm) (imm : Byte)
  /-- `EVEX.NDS.128.66.0F3A.W1 CE /r /ib`: VGF2P8AFFINEQB xmm1{k1}{z}, xmm2, xmm3/m128/m64bcst, imm8 (R345). -/
  | vgf2p8affineqb128 (e : Evex) (rm : Rm) (imm : Byte)
  /-- `EVEX.NDS.256.66.0F3A.W1 CE /r /ib`: VGF2P8AFFINEQB ymm1{k1}{z}, ymm2, ymm3/m256/m64bcst, imm8 (R345). -/
  | vgf2p8affineqb256 (e : Evex) (rm : Rm) (imm : Byte)
  /-- `EVEX.NDS.512.66.0F3A.W1 CE /r /ib`: VGF2P8AFFINEQB zmm1{k1}{z}, zmm2, zmm3/m512/m64bcst, imm8 (R345). -/
  | vgf2p8affineqb512 (e : Evex) (rm : Rm) (imm : Byte)
  /-- `66 0F3A CF /r /ib`: GF2P8AFFINEINVQB xmm1, xmm2/m128, imm8 (R347). -/
  | gf2p8affineinvqb (p : Pfx) (r : GReg) (rm : Rm) (imm : Byte)
  /-- `VEX.NDS.128.66.0F3A.W1 CF /r /ib`: VGF2P8AFFINEINVQB xmm1, xmm2, xmm3/m128, imm8 (R347). -/
  | vgf2p8affineinvqbVex128 (v : Vex) (rm : Rm) (imm : Byte)
  /-- `VEX.NDS.256.66.0F3A.W1 CF /r /ib`: VGF2P8AFFINEINVQB ymm1, ymm2, ymm3/m256, imm8 (R347). -/
  | vgf2p8affineinvqbVex256 (v : Vex) (rm : Rm) (imm : Byte)
  /-- `EVEX.NDS.128.66.0F3A.W1 CF /r /ib`: VGF2P8AFFINEINVQB xmm1{k1}{z}, xmm2, xmm3/m128/m64bcst, imm8 (R347). -/
  | vgf2p8affineinvqb128 (e : Evex) (rm : Rm) (imm : Byte)
  /-- `EVEX.NDS.256.66.0F3A.W1 CF /r /ib`: VGF2P8AFFINEINVQB ymm1{k1}{z}, ymm2, ymm3/m256/m64bcst, imm8 (R347). -/
  | vgf2p8affineinvqb256 (e : Evex) (rm : Rm) (imm : Byte)
  /-- `EVEX.NDS.512.66.0F3A.W1 CF /r /ib`: VGF2P8AFFINEINVQB zmm1{k1}{z}, zmm2, zmm3/m512/m64bcst, imm8 (R347). -/
  | vgf2p8affineinvqb512 (e : Evex) (rm : Rm) (imm : Byte)
  /-- `66 0F38 CF /r`: GF2P8MULB xmm1, xmm2/m128 (R349). -/
  | gf2p8mulb (p : Pfx) (r : GReg) (rm : Rm)
  /-- `VEX.NDS.128.66.0F38.W0 CF /r`: VGF2P8MULB xmm1, xmm2, xmm3/m128 (R349). -/
  | vgf2p8mulbVex128 (v : Vex) (rm : Rm)
  /-- `VEX.NDS.256.66.0F38.W0 CF /r`: VGF2P8MULB ymm1, ymm2, ymm3/m256 (R349). -/
  | vgf2p8mulbVex256 (v : Vex) (rm : Rm)
  /-- `EVEX.NDS.128.66.0F38.W0 CF /r`: VGF2P8MULB xmm1{k1}{z}, xmm2, xmm3/m128 (R349). -/
  | vgf2p8mulb128 (e : Evex) (rm : Rm)
  /-- `EVEX.NDS.256.66.0F38.W0 CF /r`: VGF2P8MULB ymm1{k1}{z}, ymm2, ymm3/m256 (R349). -/
  | vgf2p8mulb256 (e : Evex) (rm : Rm)
  /-- `EVEX.NDS.512.66.0F38.W0 CF /r`: VGF2P8MULB zmm1{k1}{z}, zmm2, zmm3/m512 (R349). -/
  | vgf2p8mulb512 (e : Evex) (rm : Rm)
  /-- `VEX.NDS.256.66.0F38.WIG DE /r`: VAESDEC ymm1, ymm2, ymm3/m256 (R405). -/
  | vaesdecVex256 (v : Vex) (rm : Rm)
  /-- `EVEX.NDS.128.66.0F38.WIG DE /r`: VAESDEC xmm1, xmm2, xmm3/m128 (R405). -/
  | vaesdec128 (e : Evex) (rm : Rm)
  /-- `EVEX.NDS.256.66.0F38.WIG DE /r`: VAESDEC ymm1, ymm2, ymm3/m256 (R405). -/
  | vaesdec256 (e : Evex) (rm : Rm)
  /-- `EVEX.NDS.512.66.0F38.WIG DE /r`: VAESDEC zmm1, zmm2, zmm3/m512 (R405). -/
  | vaesdec512 (e : Evex) (rm : Rm)
  /-- `VEX.NDS.256.66.0F38.WIG DF /r`: VAESDECLAST ymm1, ymm2, ymm3/m256 (R406). -/
  | vaesdeclastVex256 (v : Vex) (rm : Rm)
  /-- `EVEX.NDS.128.66.0F38.WIG DF /r`: VAESDECLAST xmm1, xmm2, xmm3/m128 (R406). -/
  | vaesdeclast128 (e : Evex) (rm : Rm)
  /-- `EVEX.NDS.256.66.0F38.WIG DF /r`: VAESDECLAST ymm1, ymm2, ymm3/m256 (R406). -/
  | vaesdeclast256 (e : Evex) (rm : Rm)
  /-- `EVEX.NDS.512.66.0F38.WIG DF /r`: VAESDECLAST zmm1, zmm2, zmm3/m512 (R406). -/
  | vaesdeclast512 (e : Evex) (rm : Rm)
  /-- `VEX.NDS.256.66.0F38.WIG DC /r`: VAESENC ymm1, ymm2, ymm3/m256 (R407). -/
  | vaesencVex256 (v : Vex) (rm : Rm)
  /-- `EVEX.NDS.128.66.0F38.WIG DC /r`: VAESENC xmm1, xmm2, xmm3/m128 (R407). -/
  | vaesenc128 (e : Evex) (rm : Rm)
  /-- `EVEX.NDS.256.66.0F38.WIG DC /r`: VAESENC ymm1, ymm2, ymm3/m256 (R407). -/
  | vaesenc256 (e : Evex) (rm : Rm)
  /-- `EVEX.NDS.512.66.0F38.WIG DC /r`: VAESENC zmm1, zmm2, zmm3/m512 (R407). -/
  | vaesenc512 (e : Evex) (rm : Rm)
  /-- `VEX.NDS.256.66.0F38.WIG DD /r`: VAESENCLAST ymm1, ymm2, ymm3/m256 (R408). -/
  | vaesenclastVex256 (v : Vex) (rm : Rm)
  /-- `EVEX.NDS.128.66.0F38.WIG DD /r`: VAESENCLAST xmm1, xmm2, xmm3/m128 (R408). -/
  | vaesenclast128 (e : Evex) (rm : Rm)
  /-- `EVEX.NDS.256.66.0F38.WIG DD /r`: VAESENCLAST ymm1, ymm2, ymm3/m256 (R408). -/
  | vaesenclast256 (e : Evex) (rm : Rm)
  /-- `EVEX.NDS.512.66.0F38.WIG DD /r`: VAESENCLAST zmm1, zmm2, zmm3/m512 (R408). -/
  | vaesenclast512 (e : Evex) (rm : Rm)
  /-- `VEX.NDS.256.66.0F3A.WIG 44 /r /ib`: VPCLMULQDQ ymm1, ymm2, ymm3/m256, imm8 (R410). -/
  | vpclmulqdqVex256 (v : Vex) (rm : Rm) (imm : Byte)
  /-- `EVEX.NDS.128.66.0F3A.WIG 44 /r /ib`: VPCLMULQDQ xmm1, xmm2, xmm3/m128, imm8 (R410). -/
  | vpclmulqdq128 (e : Evex) (rm : Rm) (imm : Byte)
  /-- `EVEX.NDS.256.66.0F3A.WIG 44 /r /ib`: VPCLMULQDQ ymm1, ymm2, ymm3/m256, imm8 (R410). -/
  | vpclmulqdq256 (e : Evex) (rm : Rm) (imm : Byte)
  /-- `EVEX.NDS.512.66.0F3A.WIG 44 /r /ib`: VPCLMULQDQ zmm1, zmm2, zmm3/m512, imm8 (R410). -/
  | vpclmulqdq512 (e : Evex) (rm : Rm) (imm : Byte)
  /-- `EVEX.128.66.0F38.W0 63 /r`: VPCOMPRESSB m128{k1}, xmm1 (R421). -/
  | vpcompressbMem128 (e : Evex) (m : Mem)
  /-- `EVEX.128.66.0F38.W0 63 /r`: VPCOMPRESSB xmm1{k1}{z}, xmm2 (R421). -/
  | vpcompressbReg128 (e : Evex) (r : VReg)
  /-- `EVEX.256.66.0F38.W0 63 /r`: VPCOMPRESSB m256{k1}, ymm1 (R421). -/
  | vpcompressbMem256 (e : Evex) (m : Mem)
  /-- `EVEX.256.66.0F38.W0 63 /r`: VPCOMPRESSB ymm1{k1}{z}, ymm2 (R421). -/
  | vpcompressbReg256 (e : Evex) (r : VReg)
  /-- `EVEX.512.66.0F38.W0 63 /r`: VPCOMPRESSB m512{k1}, zmm1 (R421). -/
  | vpcompressbMem512 (e : Evex) (m : Mem)
  /-- `EVEX.512.66.0F38.W0 63 /r`: VPCOMPRESSB zmm1{k1}{z}, zmm2 (R421). -/
  | vpcompressbReg512 (e : Evex) (r : VReg)
  /-- `EVEX.128.66.0F38.W1 63 /r`: VPCOMPRESSW m128{k1}, xmm1 (R421). -/
  | vpcompresswMem128 (e : Evex) (m : Mem)
  /-- `EVEX.128.66.0F38.W1 63 /r`: VPCOMPRESSW xmm1{k1}{z}, xmm2 (R421). -/
  | vpcompresswReg128 (e : Evex) (r : VReg)
  /-- `EVEX.256.66.0F38.W1 63 /r`: VPCOMPRESSW m256{k1}, ymm1 (R421). -/
  | vpcompresswMem256 (e : Evex) (m : Mem)
  /-- `EVEX.256.66.0F38.W1 63 /r`: VPCOMPRESSW ymm1{k1}{z}, ymm2 (R421). -/
  | vpcompresswReg256 (e : Evex) (r : VReg)
  /-- `EVEX.512.66.0F38.W1 63 /r`: VPCOMPRESSW m512{k1}, zmm1 (R421). -/
  | vpcompresswMem512 (e : Evex) (m : Mem)
  /-- `EVEX.512.66.0F38.W1 63 /r`: VPCOMPRESSW zmm1{k1}{z}, zmm2 (R421). -/
  | vpcompresswReg512 (e : Evex) (r : VReg)
  /-- `EVEX.128.66.0F38.W0 62 /r`: VPEXPANDB xmm1{k1}{z}, m128 (R425). -/
  | vpexpandbMem128 (e : Evex) (m : Mem)
  /-- `EVEX.128.66.0F38.W0 62 /r`: VPEXPANDB xmm1{k1}{z}, xmm2 (R425). -/
  | vpexpandbReg128 (e : Evex) (r : VReg)
  /-- `EVEX.256.66.0F38.W0 62 /r`: VPEXPANDB ymm1{k1}{z}, m256 (R425). -/
  | vpexpandbMem256 (e : Evex) (m : Mem)
  /-- `EVEX.256.66.0F38.W0 62 /r`: VPEXPANDB ymm1{k1}{z}, ymm2 (R425). -/
  | vpexpandbReg256 (e : Evex) (r : VReg)
  /-- `EVEX.512.66.0F38.W0 62 /r`: VPEXPANDB zmm1{k1}{z}, m512 (R425). -/
  | vpexpandbMem512 (e : Evex) (m : Mem)
  /-- `EVEX.512.66.0F38.W0 62 /r`: VPEXPANDB zmm1{k1}{z}, zmm2 (R425). -/
  | vpexpandbReg512 (e : Evex) (r : VReg)
  /-- `EVEX.128.66.0F38.W1 62 /r`: VPEXPANDW xmm1{k1}{z}, m128 (R425). -/
  | vpexpandwMem128 (e : Evex) (m : Mem)
  /-- `EVEX.128.66.0F38.W1 62 /r`: VPEXPANDW xmm1{k1}{z}, xmm2 (R425). -/
  | vpexpandwReg128 (e : Evex) (r : VReg)
  /-- `EVEX.256.66.0F38.W1 62 /r`: VPEXPANDW ymm1{k1}{z}, m256 (R425). -/
  | vpexpandwMem256 (e : Evex) (m : Mem)
  /-- `EVEX.256.66.0F38.W1 62 /r`: VPEXPANDW ymm1{k1}{z}, ymm2 (R425). -/
  | vpexpandwReg256 (e : Evex) (r : VReg)
  /-- `EVEX.512.66.0F38.W1 62 /r`: VPEXPANDW zmm1{k1}{z}, m512 (R425). -/
  | vpexpandwMem512 (e : Evex) (m : Mem)
  /-- `EVEX.512.66.0F38.W1 62 /r`: VPEXPANDW zmm1{k1}{z}, zmm2 (R425). -/
  | vpexpandwReg512 (e : Evex) (r : VReg)
  /-- `EVEX.NDS.128.66.0F3A.W1 70 /r /ib`: VPSHLDW xmm1{k1}{z}, xmm2, xmm3/m128, imm8 (R432). -/
  | vpshldw128 (e : Evex) (rm : Rm) (imm : Byte)
  /-- `EVEX.NDS.256.66.0F3A.W1 70 /r /ib`: VPSHLDW ymm1{k1}{z}, ymm2, ymm3/m256, imm8 (R432). -/
  | vpshldw256 (e : Evex) (rm : Rm) (imm : Byte)
  /-- `EVEX.NDS.512.66.0F3A.W1 70 /r /ib`: VPSHLDW zmm1{k1}{z}, zmm2, zmm3/m512, imm8 (R432). -/
  | vpshldw512 (e : Evex) (rm : Rm) (imm : Byte)
  /-- `EVEX.NDS.128.66.0F3A.W0 71 /r /ib`: VPSHLDD xmm1{k1}{z}, xmm2, xmm3/m128/m32bcst, imm8 (R432). -/
  | vpshldd128 (e : Evex) (rm : Rm) (imm : Byte)
  /-- `EVEX.NDS.256.66.0F3A.W0 71 /r /ib`: VPSHLDD ymm1{k1}{z}, ymm2, ymm3/m256/m32bcst, imm8 (R432). -/
  | vpshldd256 (e : Evex) (rm : Rm) (imm : Byte)
  /-- `EVEX.NDS.512.66.0F3A.W0 71 /r /ib`: VPSHLDD zmm1{k1}{z}, zmm2, zmm3/m512/m32bcst, imm8 (R432). -/
  | vpshldd512 (e : Evex) (rm : Rm) (imm : Byte)
  /-- `EVEX.NDS.128.66.0F3A.W1 71 /r /ib`: VPSHLDQ xmm1{k1}{z}, xmm2, xmm3/m128/m64bcst, imm8 (R432). -/
  | vpshldq128 (e : Evex) (rm : Rm) (imm : Byte)
  /-- `EVEX.NDS.256.66.0F3A.W1 71 /r /ib`: VPSHLDQ ymm1{k1}{z}, ymm2, ymm3/m256/m64bcst, imm8 (R432). -/
  | vpshldq256 (e : Evex) (rm : Rm) (imm : Byte)
  /-- `EVEX.NDS.512.66.0F3A.W1 71 /r /ib`: VPSHLDQ zmm1{k1}{z}, zmm2, zmm3/m512/m64bcst, imm8 (R432). -/
  | vpshldq512 (e : Evex) (rm : Rm) (imm : Byte)
  /-- `EVEX.DDS.128.66.0F38.W1 70 /r`: VPSHLDVW xmm1{k1}{z}, xmm2, xmm3/m128 (R434). -/
  | vpshldvw128 (e : Evex) (rm : Rm)
  /-- `EVEX.DDS.256.66.0F38.W1 70 /r`: VPSHLDVW ymm1{k1}{z}, ymm2, ymm3/m256 (R434). -/
  | vpshldvw256 (e : Evex) (rm : Rm)
  /-- `EVEX.DDS.512.66.0F38.W1 70 /r`: VPSHLDVW zmm1{k1}{z}, zmm2, zmm3/m512 (R434). -/
  | vpshldvw512 (e : Evex) (rm : Rm)
  /-- `EVEX.DDS.128.66.0F38.W0 71 /r`: VPSHLDVD xmm1{k1}{z}, xmm2, xmm3/m128/m32bcst (R434). -/
  | vpshldvd128 (e : Evex) (rm : Rm)
  /-- `EVEX.DDS.256.66.0F38.W0 71 /r`: VPSHLDVD ymm1{k1}{z}, ymm2, ymm3/m256/m32bcst (R434). -/
  | vpshldvd256 (e : Evex) (rm : Rm)
  /-- `EVEX.DDS.512.66.0F38.W0 71 /r`: VPSHLDVD zmm1{k1}{z}, zmm2, zmm3/m512/m32bcst (R434). -/
  | vpshldvd512 (e : Evex) (rm : Rm)
  /-- `EVEX.DDS.128.66.0F38.W1 71 /r`: VPSHLDVQ xmm1{k1}{z}, xmm2, xmm3/m128/m64bcst (R434). -/
  | vpshldvq128 (e : Evex) (rm : Rm)
  /-- `EVEX.DDS.256.66.0F38.W1 71 /r`: VPSHLDVQ ymm1{k1}{z}, ymm2, ymm3/m256/m64bcst (R434). -/
  | vpshldvq256 (e : Evex) (rm : Rm)
  /-- `EVEX.DDS.512.66.0F38.W1 71 /r`: VPSHLDVQ zmm1{k1}{z}, zmm2, zmm3/m512/m64bcst (R434). -/
  | vpshldvq512 (e : Evex) (rm : Rm)
  /-- `EVEX.NDS.128.66.0F3A.W1 72 /r /ib`: VPSHRDW xmm1{k1}{z}, xmm2, xmm3/m128, imm8 (R436). -/
  | vpshrdw128 (e : Evex) (rm : Rm) (imm : Byte)
  /-- `EVEX.NDS.256.66.0F3A.W1 72 /r /ib`: VPSHRDW ymm1{k1}{z}, ymm2, ymm3/m256, imm8 (R436). -/
  | vpshrdw256 (e : Evex) (rm : Rm) (imm : Byte)
  /-- `EVEX.NDS.512.66.0F3A.W1 72 /r /ib`: VPSHRDW zmm1{k1}{z}, zmm2, zmm3/m512, imm8 (R436). -/
  | vpshrdw512 (e : Evex) (rm : Rm) (imm : Byte)
  /-- `EVEX.NDS.128.66.0F3A.W0 73 /r /ib`: VPSHRDD xmm1{k1}{z}, xmm2, xmm3/m128/m32bcst, imm8 (R436). -/
  | vpshrdd128 (e : Evex) (rm : Rm) (imm : Byte)
  /-- `EVEX.NDS.256.66.0F3A.W0 73 /r /ib`: VPSHRDD ymm1{k1}{z}, ymm2, ymm3/m256/m32bcst, imm8 (R436). -/
  | vpshrdd256 (e : Evex) (rm : Rm) (imm : Byte)
  /-- `EVEX.NDS.512.66.0F3A.W0 73 /r /ib`: VPSHRDD zmm1{k1}{z}, zmm2, zmm3/m512/m32bcst, imm8 (R436). -/
  | vpshrdd512 (e : Evex) (rm : Rm) (imm : Byte)
  /-- `EVEX.NDS.128.66.0F3A.W1 73 /r /ib`: VPSHRDQ xmm1{k1}{z}, xmm2, xmm3/m128/m64bcst, imm8 (R436). -/
  | vpshrdq128 (e : Evex) (rm : Rm) (imm : Byte)
  /-- `EVEX.NDS.256.66.0F3A.W1 73 /r /ib`: VPSHRDQ ymm1{k1}{z}, ymm2, ymm3/m256/m64bcst, imm8 (R436). -/
  | vpshrdq256 (e : Evex) (rm : Rm) (imm : Byte)
  /-- `EVEX.NDS.512.66.0F3A.W1 73 /r /ib`: VPSHRDQ zmm1{k1}{z}, zmm2, zmm3/m512/m64bcst, imm8 (R436). -/
  | vpshrdq512 (e : Evex) (rm : Rm) (imm : Byte)
  /-- `EVEX.DDS.128.66.0F38.W1 72 /r`: VPSHRDVW xmm1{k1}{z}, xmm2, xmm3/m128 (R438). -/
  | vpshrdvw128 (e : Evex) (rm : Rm)
  /-- `EVEX.DDS.256.66.0F38.W1 72 /r`: VPSHRDVW ymm1{k1}{z}, ymm2, ymm3/m256 (R438). -/
  | vpshrdvw256 (e : Evex) (rm : Rm)
  /-- `EVEX.DDS.512.66.0F38.W1 72 /r`: VPSHRDVW zmm1{k1}{z}, zmm2, zmm3/m512 (R438). -/
  | vpshrdvw512 (e : Evex) (rm : Rm)
  /-- `EVEX.DDS.128.66.0F38.W0 73 /r`: VPSHRDVD xmm1{k1}{z}, xmm2, xmm3/m128/m32bcst (R438). -/
  | vpshrdvd128 (e : Evex) (rm : Rm)
  /-- `EVEX.DDS.256.66.0F38.W0 73 /r`: VPSHRDVD ymm1{k1}{z}, ymm2, ymm3/m256/m32bcst (R438). -/
  | vpshrdvd256 (e : Evex) (rm : Rm)
  /-- `EVEX.DDS.512.66.0F38.W0 73 /r`: VPSHRDVD zmm1{k1}{z}, zmm2, zmm3/m512/m32bcst (R438). -/
  | vpshrdvd512 (e : Evex) (rm : Rm)
  /-- `EVEX.DDS.128.66.0F38.W1 73 /r`: VPSHRDVQ xmm1{k1}{z}, xmm2, xmm3/m128/m64bcst (R438). -/
  | vpshrdvq128 (e : Evex) (rm : Rm)
  /-- `EVEX.DDS.256.66.0F38.W1 73 /r`: VPSHRDVQ ymm1{k1}{z}, ymm2, ymm3/m256/m64bcst (R438). -/
  | vpshrdvq256 (e : Evex) (rm : Rm)
  /-- `EVEX.DDS.512.66.0F38.W1 73 /r`: VPSHRDVQ zmm1{k1}{z}, zmm2, zmm3/m512/m64bcst (R438). -/
  | vpshrdvq512 (e : Evex) (rm : Rm)
  /-- `EVEX.DDS.128.66.0F38.W0 50 /r`: VPDPBUSD xmm1{k1}{z}, xmm2, xmm3/m128/m32bcst (R462). -/
  | vpdpbusd128 (e : Evex) (rm : Rm)
  /-- `EVEX.DDS.256.66.0F38.W0 50 /r`: VPDPBUSD ymm1{k1}{z}, ymm2, ymm3/m256/m32bcst (R462). -/
  | vpdpbusd256 (e : Evex) (rm : Rm)
  /-- `EVEX.DDS.512.66.0F38.W0 50 /r`: VPDPBUSD zmm1{k1}{z}, zmm2, zmm3/m512/m32bcst (R462). -/
  | vpdpbusd512 (e : Evex) (rm : Rm)
  /-- `EVEX.DDS.128.66.0F38.W0 51 /r`: VPDPBUSDS xmm1{k1}{z}, xmm2, xmm3/m128/m32bcst (R464). -/
  | vpdpbusds128 (e : Evex) (rm : Rm)
  /-- `EVEX.DDS.256.66.0F38.W0 51 /r`: VPDPBUSDS ymm1{k1}{z}, ymm2, ymm3/m256/m32bcst (R464). -/
  | vpdpbusds256 (e : Evex) (rm : Rm)
  /-- `EVEX.DDS.512.66.0F38.W0 51 /r`: VPDPBUSDS zmm1{k1}{z}, zmm2, zmm3/m512/m32bcst (R464). -/
  | vpdpbusds512 (e : Evex) (rm : Rm)
  /-- `EVEX.DDS.128.66.0F38.W0 52 /r`: VPDPWSSD xmm1{k1}{z}, xmm2, xmm3/m128/m32bcst (R466). -/
  | vpdpwssd128 (e : Evex) (rm : Rm)
  /-- `EVEX.DDS.256.66.0F38.W0 52 /r`: VPDPWSSD ymm1{k1}{z}, ymm2, ymm3/m256/m32bcst (R466). -/
  | vpdpwssd256 (e : Evex) (rm : Rm)
  /-- `EVEX.DDS.512.66.0F38.W0 52 /r`: VPDPWSSD zmm1{k1}{z}, zmm2, zmm3/m512/m32bcst (R466). -/
  | vpdpwssd512 (e : Evex) (rm : Rm)
  /-- `EVEX.DDS.128.66.0F38.W0 53 /r`: VPDPWSSDS xmm1{k1}{z}, xmm2, xmm3/m128/m32bcst (R468). -/
  | vpdpwssds128 (e : Evex) (rm : Rm)
  /-- `EVEX.DDS.256.66.0F38.W0 53 /r`: VPDPWSSDS ymm1{k1}{z}, ymm2, ymm3/m256/m32bcst (R468). -/
  | vpdpwssds256 (e : Evex) (rm : Rm)
  /-- `EVEX.DDS.512.66.0F38.W0 53 /r`: VPDPWSSDS zmm1{k1}{z}, zmm2, zmm3/m512/m32bcst (R468). -/
  | vpdpwssds512 (e : Evex) (rm : Rm)
  /-- `EVEX.128.66.0F38.W0 54 /r`: VPOPCNTB xmm1{k1}{z}, xmm2/m128 (R481). -/
  | vpopcntb128 (e : Evex) (rm : Rm)
  /-- `EVEX.256.66.0F38.W0 54 /r`: VPOPCNTB ymm1{k1}{z}, ymm2/m256 (R481). -/
  | vpopcntb256 (e : Evex) (rm : Rm)
  /-- `EVEX.512.66.0F38.W0 54 /r`: VPOPCNTB zmm1{k1}{z}, zmm2/m512 (R481). -/
  | vpopcntb512 (e : Evex) (rm : Rm)
  /-- `EVEX.128.66.0F38.W1 54 /r`: VPOPCNTW xmm1{k1}{z}, xmm2/m128 (R481). -/
  | vpopcntw128 (e : Evex) (rm : Rm)
  /-- `EVEX.256.66.0F38.W1 54 /r`: VPOPCNTW ymm1{k1}{z}, ymm2/m256 (R481). -/
  | vpopcntw256 (e : Evex) (rm : Rm)
  /-- `EVEX.512.66.0F38.W1 54 /r`: VPOPCNTW zmm1{k1}{z}, zmm2/m512 (R481). -/
  | vpopcntw512 (e : Evex) (rm : Rm)
  /-- `EVEX.128.66.0F38.W0 55 /r`: VPOPCNTD xmm1{k1}{z}, xmm2/m128/m32bcst (R481). -/
  | vpopcntd128 (e : Evex) (rm : Rm)
  /-- `EVEX.256.66.0F38.W0 55 /r`: VPOPCNTD ymm1{k1}{z}, ymm2/m256/m32bcst (R481). -/
  | vpopcntd256 (e : Evex) (rm : Rm)
  /-- `EVEX.512.66.0F38.W0 55 /r`: VPOPCNTD zmm1{k1}{z}, zmm2/m512/m32bcst (R481). -/
  | vpopcntd512 (e : Evex) (rm : Rm)
  /-- `EVEX.128.66.0F38.W1 55 /r`: VPOPCNTQ xmm1{k1}{z}, xmm2/m128/m64bcst (R481). -/
  | vpopcntq128 (e : Evex) (rm : Rm)
  /-- `EVEX.256.66.0F38.W1 55 /r`: VPOPCNTQ ymm1{k1}{z}, ymm2/m256/m64bcst (R481). -/
  | vpopcntq256 (e : Evex) (rm : Rm)
  /-- `EVEX.512.66.0F38.W1 55 /r`: VPOPCNTQ zmm1{k1}{z}, zmm2/m512/m64bcst (R481). -/
  | vpopcntq512 (e : Evex) (rm : Rm)
  /-- `EVEX.NDS.128.66.0F38.W0 8F /r`: VPSHUFBITQMB k1{k2}, xmm2, xmm3/m128 (R484). -/
  | vpshufbitqmb128 (e : Evex) (rm : Rm)
  /-- `EVEX.NDS.256.66.0F38.W0 8F /r`: VPSHUFBITQMB k1{k2}, ymm2, ymm3/m256 (R484). -/
  | vpshufbitqmb256 (e : Evex) (rm : Rm)
  /-- `EVEX.NDS.512.66.0F38.W0 8F /r`: VPSHUFBITQMB k1{k2}, zmm2, zmm3/m512 (R484). -/
  | vpshufbitqmb512 (e : Evex) (rm : Rm)
  deriving DecidableEq, Repr

end Sys2Proof
end

