-- ==== Sys2Proof/WellFormed.lean ====
section
/-! DEFINITION. Well-formed instructions: those with a legal encoding in a mode, one that breaks none of the rules of
30_encoding.md that make a byte string of a row #UD (R174, R176 to R178, R195) and that the encoder can write. -/

namespace Sys2Proof

/-- No forbidden prefix (R125, R176). -/
def Pfx.ok (p : Pfx) : Bool := !p.forbidden

/-- A general register that the mode can name (10_state.md R31). -/
def GReg.ok (m : DecodeMode) (r : GReg) : Bool := m.is64 || decide (r.toNat < 8)

/-- A vector register below `n` that the mode can name (10_state.md R40, 30_encoding.md R174). -/
def VReg.ok (m : DecodeMode) (n : Nat) (r : VReg) : Bool := decide (r.toNat < if m.is64 then n else 8)

/-- Is the address size of the instruction 16 bits (R167)? -/
def wide16 (m : DecodeMode) (p : Pfx) : Bool := !m.is64 && (m.csD == p.addr67)

/-- A displacement of a ModRM form with 32- or 64-bit addressing; `mod = 00` cannot be used with a base whose low bits
are 101 (R166). -/
def Disp.ok32 (d : Disp) (base : GReg) : Bool :=
  match d with
  | .none => base &&& 7#4 != 5#4
  | .d8 _ => true
  | .d16 _ => false
  | .d32 _ => true

/-- A displacement of the 16-bit table (R166). -/
def Disp.ok16 (d : Disp) (rm : BitVec 3) : Bool :=
  match d with
  | .none => rm != 6#3
  | .d8 _ => true
  | .d16 _ => true
  | .d32 _ => false

/-- Is the displacement 32 bits wide? -/
def Disp.is32 : Disp → Bool
  | .d32 _ => true
  | _ => false

/-- A memory operand that ModRM can express with the instruction's address size (R166). -/
def Mem.ok (m : DecodeMode) (p : Pfx) : Mem → Bool
  | .base r d => !wide16 m p && (r &&& 7#4 != 4#4) && d.ok32 r && GReg.ok m r
  | .ripRel _ => !wide16 m p
  | .sib (some r) i _ d => !wide16 m p && d.ok32 r && GReg.ok m r && GReg.ok m i
  | .sib Option.none i _ d => !wide16 m p && d.is32 && GReg.ok m i
  | .a16 rm d => wide16 m p && d.ok16 rm
  | .disp16 _ => wide16 m p

/-- An r/m operand, with `n` vector registers nameable. -/
def Rm.ok (m : DecodeMode) (p : Pfx) (n : Nat) : Rm → Bool
  | .reg r => VReg.ok m n r
  | .mem x => x.ok m p

/-- Is the operand memory? -/
def Rm.isMem : Rm → Bool
  | .reg _ => false
  | .mem _ => true

/-- How a row is masked (R177; 60_exceptions.md R617). -/
inductive Masking
  /-- No `{k1}`: aaa and z must be 0. -/
  | none
  /-- `{k1}{z}`: z only with a mask. -/
  | mergeZero
  /-- `{k1}` with a memory destination: z must be 0. -/
  | mergeOnly
  /-- Opmask destination `k1{k2}`: z must be 0, and the destination is one of k0 to k7. -/
  | opmask
  deriving DecidableEq, Repr

/-- The masking fields are as the row allows (R177). -/
def Evex.maskOk (e : Evex) : Masking → Bool
  | .none => e.aaa == 0#3 && !e.z
  | .mergeZero => !e.z || e.aaa != 0#3
  | .mergeOnly => !e.z
  | .opmask => !e.z && decide (e.reg.toNat < 8)

/-- An EVEX prefix legal for a row: fixed bits (R173), unused vvvv (R176), masking (R177), broadcast (R178). -/
def Evex.ok (m : DecodeMode) (nds bcast : Bool) (k : Masking) (isMem : Bool) (e : Evex) : Bool :=
  e.pfx.ok && e.p0res == 0#2 && e.p1one && (nds || e.vvvv == 0#5) && e.maskOk k && (!e.b || (bcast && isMem)) &&
    VReg.ok m 32 e.reg && VReg.ok m 32 e.vvvv

/-- A VEX prefix legal in the mode (R172, R176). -/
def Vex.ok (m : DecodeMode) (v : Vex) : Bool := v.pfx.ok && GReg.ok m v.reg && GReg.ok m v.vvvv

/-- The well-formed instructions of a mode. -/
def Instr.wellFormed (m : DecodeMode) : Instr → Bool
  | .cpuid p => p.ok
  | .cldemote p m' => p.ok && m'.ok m p
  | .movdiri32 p r m' => p.ok && GReg.ok m r && m'.ok m p
  | .movdiri64 p r m' => p.ok && GReg.ok m r && m'.ok m p && m.is64
  | .movdir64b p r m' => p.ok && GReg.ok m r && m'.ok m p
  | .wbnoinvd p => p.ok
  | .pconfig p => p.ok
  | .tpause p r => p.ok && GReg.ok m r
  | .umonitor p r => p.ok && GReg.ok m r
  | .umwait p r => p.ok && GReg.ok m r
  | .gf2p8affineqb p r rm _ => p.ok && GReg.ok m r && rm.ok m p 16
  | .vgf2p8affineqbVex128 v rm _ => v.ok m && rm.ok m v.pfx 16
  | .vgf2p8affineqbVex256 v rm _ => v.ok m && rm.ok m v.pfx 16
  | .vgf2p8affineqb128 e rm _ => e.ok m true true .mergeZero rm.isMem && rm.ok m e.pfx 32
  | .vgf2p8affineqb256 e rm _ => e.ok m true true .mergeZero rm.isMem && rm.ok m e.pfx 32
  | .vgf2p8affineqb512 e rm _ => e.ok m true true .mergeZero rm.isMem && rm.ok m e.pfx 32
  | .gf2p8affineinvqb p r rm _ => p.ok && GReg.ok m r && rm.ok m p 16
  | .vgf2p8affineinvqbVex128 v rm _ => v.ok m && rm.ok m v.pfx 16
  | .vgf2p8affineinvqbVex256 v rm _ => v.ok m && rm.ok m v.pfx 16
  | .vgf2p8affineinvqb128 e rm _ => e.ok m true true .mergeZero rm.isMem && rm.ok m e.pfx 32
  | .vgf2p8affineinvqb256 e rm _ => e.ok m true true .mergeZero rm.isMem && rm.ok m e.pfx 32
  | .vgf2p8affineinvqb512 e rm _ => e.ok m true true .mergeZero rm.isMem && rm.ok m e.pfx 32
  | .gf2p8mulb p r rm => p.ok && GReg.ok m r && rm.ok m p 16
  | .vgf2p8mulbVex128 v rm => v.ok m && rm.ok m v.pfx 16
  | .vgf2p8mulbVex256 v rm => v.ok m && rm.ok m v.pfx 16
  | .vgf2p8mulb128 e rm => e.ok m true false .mergeZero rm.isMem && rm.ok m e.pfx 32
  | .vgf2p8mulb256 e rm => e.ok m true false .mergeZero rm.isMem && rm.ok m e.pfx 32
  | .vgf2p8mulb512 e rm => e.ok m true false .mergeZero rm.isMem && rm.ok m e.pfx 32
  | .vaesdecVex256 v rm => v.ok m && rm.ok m v.pfx 16
  | .vaesdec128 e rm => e.ok m true false .none rm.isMem && rm.ok m e.pfx 32
  | .vaesdec256 e rm => e.ok m true false .none rm.isMem && rm.ok m e.pfx 32
  | .vaesdec512 e rm => e.ok m true false .none rm.isMem && rm.ok m e.pfx 32
  | .vaesdeclastVex256 v rm => v.ok m && rm.ok m v.pfx 16
  | .vaesdeclast128 e rm => e.ok m true false .none rm.isMem && rm.ok m e.pfx 32
  | .vaesdeclast256 e rm => e.ok m true false .none rm.isMem && rm.ok m e.pfx 32
  | .vaesdeclast512 e rm => e.ok m true false .none rm.isMem && rm.ok m e.pfx 32
  | .vaesencVex256 v rm => v.ok m && rm.ok m v.pfx 16
  | .vaesenc128 e rm => e.ok m true false .none rm.isMem && rm.ok m e.pfx 32
  | .vaesenc256 e rm => e.ok m true false .none rm.isMem && rm.ok m e.pfx 32
  | .vaesenc512 e rm => e.ok m true false .none rm.isMem && rm.ok m e.pfx 32
  | .vaesenclastVex256 v rm => v.ok m && rm.ok m v.pfx 16
  | .vaesenclast128 e rm => e.ok m true false .none rm.isMem && rm.ok m e.pfx 32
  | .vaesenclast256 e rm => e.ok m true false .none rm.isMem && rm.ok m e.pfx 32
  | .vaesenclast512 e rm => e.ok m true false .none rm.isMem && rm.ok m e.pfx 32
  | .vpclmulqdqVex256 v rm _ => v.ok m && rm.ok m v.pfx 16
  | .vpclmulqdq128 e rm _ => e.ok m true false .none rm.isMem && rm.ok m e.pfx 32
  | .vpclmulqdq256 e rm _ => e.ok m true false .none rm.isMem && rm.ok m e.pfx 32
  | .vpclmulqdq512 e rm _ => e.ok m true false .none rm.isMem && rm.ok m e.pfx 32
  | .vpcompressbMem128 e m' => e.ok m false false .mergeOnly true && m'.ok m e.pfx
  | .vpcompressbReg128 e r => e.ok m false false .mergeZero false && VReg.ok m 32 r
  | .vpcompressbMem256 e m' => e.ok m false false .mergeOnly true && m'.ok m e.pfx
  | .vpcompressbReg256 e r => e.ok m false false .mergeZero false && VReg.ok m 32 r
  | .vpcompressbMem512 e m' => e.ok m false false .mergeOnly true && m'.ok m e.pfx
  | .vpcompressbReg512 e r => e.ok m false false .mergeZero false && VReg.ok m 32 r
  | .vpcompresswMem128 e m' => e.ok m false false .mergeOnly true && m'.ok m e.pfx
  | .vpcompresswReg128 e r => e.ok m false false .mergeZero false && VReg.ok m 32 r
  | .vpcompresswMem256 e m' => e.ok m false false .mergeOnly true && m'.ok m e.pfx
  | .vpcompresswReg256 e r => e.ok m false false .mergeZero false && VReg.ok m 32 r
  | .vpcompresswMem512 e m' => e.ok m false false .mergeOnly true && m'.ok m e.pfx
  | .vpcompresswReg512 e r => e.ok m false false .mergeZero false && VReg.ok m 32 r
  | .vpexpandbMem128 e m' => e.ok m false false .mergeZero true && m'.ok m e.pfx
  | .vpexpandbReg128 e r => e.ok m false false .mergeZero false && VReg.ok m 32 r
  | .vpexpandbMem256 e m' => e.ok m false false .mergeZero true && m'.ok m e.pfx
  | .vpexpandbReg256 e r => e.ok m false false .mergeZero false && VReg.ok m 32 r
  | .vpexpandbMem512 e m' => e.ok m false false .mergeZero true && m'.ok m e.pfx
  | .vpexpandbReg512 e r => e.ok m false false .mergeZero false && VReg.ok m 32 r
  | .vpexpandwMem128 e m' => e.ok m false false .mergeZero true && m'.ok m e.pfx
  | .vpexpandwReg128 e r => e.ok m false false .mergeZero false && VReg.ok m 32 r
  | .vpexpandwMem256 e m' => e.ok m false false .mergeZero true && m'.ok m e.pfx
  | .vpexpandwReg256 e r => e.ok m false false .mergeZero false && VReg.ok m 32 r
  | .vpexpandwMem512 e m' => e.ok m false false .mergeZero true && m'.ok m e.pfx
  | .vpexpandwReg512 e r => e.ok m false false .mergeZero false && VReg.ok m 32 r
  | .vpshldw128 e rm _ => e.ok m true false .mergeZero rm.isMem && rm.ok m e.pfx 32
  | .vpshldw256 e rm _ => e.ok m true false .mergeZero rm.isMem && rm.ok m e.pfx 32
  | .vpshldw512 e rm _ => e.ok m true false .mergeZero rm.isMem && rm.ok m e.pfx 32
  | .vpshldd128 e rm _ => e.ok m true true .mergeZero rm.isMem && rm.ok m e.pfx 32
  | .vpshldd256 e rm _ => e.ok m true true .mergeZero rm.isMem && rm.ok m e.pfx 32
  | .vpshldd512 e rm _ => e.ok m true true .mergeZero rm.isMem && rm.ok m e.pfx 32
  | .vpshldq128 e rm _ => e.ok m true true .mergeZero rm.isMem && rm.ok m e.pfx 32
  | .vpshldq256 e rm _ => e.ok m true true .mergeZero rm.isMem && rm.ok m e.pfx 32
  | .vpshldq512 e rm _ => e.ok m true true .mergeZero rm.isMem && rm.ok m e.pfx 32
  | .vpshldvw128 e rm => e.ok m true false .mergeZero rm.isMem && rm.ok m e.pfx 32
  | .vpshldvw256 e rm => e.ok m true false .mergeZero rm.isMem && rm.ok m e.pfx 32
  | .vpshldvw512 e rm => e.ok m true false .mergeZero rm.isMem && rm.ok m e.pfx 32
  | .vpshldvd128 e rm => e.ok m true true .mergeZero rm.isMem && rm.ok m e.pfx 32
  | .vpshldvd256 e rm => e.ok m true true .mergeZero rm.isMem && rm.ok m e.pfx 32
  | .vpshldvd512 e rm => e.ok m true true .mergeZero rm.isMem && rm.ok m e.pfx 32
  | .vpshldvq128 e rm => e.ok m true true .mergeZero rm.isMem && rm.ok m e.pfx 32
  | .vpshldvq256 e rm => e.ok m true true .mergeZero rm.isMem && rm.ok m e.pfx 32
  | .vpshldvq512 e rm => e.ok m true true .mergeZero rm.isMem && rm.ok m e.pfx 32
  | .vpshrdw128 e rm _ => e.ok m true false .mergeZero rm.isMem && rm.ok m e.pfx 32
  | .vpshrdw256 e rm _ => e.ok m true false .mergeZero rm.isMem && rm.ok m e.pfx 32
  | .vpshrdw512 e rm _ => e.ok m true false .mergeZero rm.isMem && rm.ok m e.pfx 32
  | .vpshrdd128 e rm _ => e.ok m true true .mergeZero rm.isMem && rm.ok m e.pfx 32
  | .vpshrdd256 e rm _ => e.ok m true true .mergeZero rm.isMem && rm.ok m e.pfx 32
  | .vpshrdd512 e rm _ => e.ok m true true .mergeZero rm.isMem && rm.ok m e.pfx 32
  | .vpshrdq128 e rm _ => e.ok m true true .mergeZero rm.isMem && rm.ok m e.pfx 32
  | .vpshrdq256 e rm _ => e.ok m true true .mergeZero rm.isMem && rm.ok m e.pfx 32
  | .vpshrdq512 e rm _ => e.ok m true true .mergeZero rm.isMem && rm.ok m e.pfx 32
  | .vpshrdvw128 e rm => e.ok m true false .mergeZero rm.isMem && rm.ok m e.pfx 32
  | .vpshrdvw256 e rm => e.ok m true false .mergeZero rm.isMem && rm.ok m e.pfx 32
  | .vpshrdvw512 e rm => e.ok m true false .mergeZero rm.isMem && rm.ok m e.pfx 32
  | .vpshrdvd128 e rm => e.ok m true true .mergeZero rm.isMem && rm.ok m e.pfx 32
  | .vpshrdvd256 e rm => e.ok m true true .mergeZero rm.isMem && rm.ok m e.pfx 32
  | .vpshrdvd512 e rm => e.ok m true true .mergeZero rm.isMem && rm.ok m e.pfx 32
  | .vpshrdvq128 e rm => e.ok m true true .mergeZero rm.isMem && rm.ok m e.pfx 32
  | .vpshrdvq256 e rm => e.ok m true true .mergeZero rm.isMem && rm.ok m e.pfx 32
  | .vpshrdvq512 e rm => e.ok m true true .mergeZero rm.isMem && rm.ok m e.pfx 32
  | .vpdpbusd128 e rm => e.ok m true true .mergeZero rm.isMem && rm.ok m e.pfx 32
  | .vpdpbusd256 e rm => e.ok m true true .mergeZero rm.isMem && rm.ok m e.pfx 32
  | .vpdpbusd512 e rm => e.ok m true true .mergeZero rm.isMem && rm.ok m e.pfx 32
  | .vpdpbusds128 e rm => e.ok m true true .mergeZero rm.isMem && rm.ok m e.pfx 32
  | .vpdpbusds256 e rm => e.ok m true true .mergeZero rm.isMem && rm.ok m e.pfx 32
  | .vpdpbusds512 e rm => e.ok m true true .mergeZero rm.isMem && rm.ok m e.pfx 32
  | .vpdpwssd128 e rm => e.ok m true true .mergeZero rm.isMem && rm.ok m e.pfx 32
  | .vpdpwssd256 e rm => e.ok m true true .mergeZero rm.isMem && rm.ok m e.pfx 32
  | .vpdpwssd512 e rm => e.ok m true true .mergeZero rm.isMem && rm.ok m e.pfx 32
  | .vpdpwssds128 e rm => e.ok m true true .mergeZero rm.isMem && rm.ok m e.pfx 32
  | .vpdpwssds256 e rm => e.ok m true true .mergeZero rm.isMem && rm.ok m e.pfx 32
  | .vpdpwssds512 e rm => e.ok m true true .mergeZero rm.isMem && rm.ok m e.pfx 32
  | .vpopcntb128 e rm => e.ok m false false .mergeZero rm.isMem && rm.ok m e.pfx 32
  | .vpopcntb256 e rm => e.ok m false false .mergeZero rm.isMem && rm.ok m e.pfx 32
  | .vpopcntb512 e rm => e.ok m false false .mergeZero rm.isMem && rm.ok m e.pfx 32
  | .vpopcntw128 e rm => e.ok m false false .mergeZero rm.isMem && rm.ok m e.pfx 32
  | .vpopcntw256 e rm => e.ok m false false .mergeZero rm.isMem && rm.ok m e.pfx 32
  | .vpopcntw512 e rm => e.ok m false false .mergeZero rm.isMem && rm.ok m e.pfx 32
  | .vpopcntd128 e rm => e.ok m false true .mergeZero rm.isMem && rm.ok m e.pfx 32
  | .vpopcntd256 e rm => e.ok m false true .mergeZero rm.isMem && rm.ok m e.pfx 32
  | .vpopcntd512 e rm => e.ok m false true .mergeZero rm.isMem && rm.ok m e.pfx 32
  | .vpopcntq128 e rm => e.ok m false true .mergeZero rm.isMem && rm.ok m e.pfx 32
  | .vpopcntq256 e rm => e.ok m false true .mergeZero rm.isMem && rm.ok m e.pfx 32
  | .vpopcntq512 e rm => e.ok m false true .mergeZero rm.isMem && rm.ok m e.pfx 32
  | .vpshufbitqmb128 e rm => e.ok m true false .opmask rm.isMem && rm.ok m e.pfx 32
  | .vpshufbitqmb256 e rm => e.ok m true false .opmask rm.isMem && rm.ok m e.pfx 32
  | .vpshufbitqmb512 e rm => e.ok m true false .opmask rm.isMem && rm.ok m e.pfx 32

end Sys2Proof
end

