-- ==== Sys2Proof/Decode.lean ====
section
/-! DEFINITION. The decoder, total on any bytes, and after it the encoder, both written from 30_encoding.md
(R150 to R178, R195, R196, R204). Decoding has two stages: `parse` cuts the bytes into the fields of one of four
encoding classes (`View`), and `build` selects the row. -/

namespace Sys2Proof

/-! ## Decoding: the parts of an encoding -/

/-- Why a byte string is outside the spec (30_encoding.md R196, D4): it is refused, not #UD. -/
inductive NoMatch
  /-- No row of spec/opcode_table.json has this opcode, prefix, map, L or ModRM.reg. -/
  | noRow
  /-- A REX byte that is not immediately before the opcode (R165). -/
  | rexMisplaced
  /-- `0F AE /6` with more than one of 66H, F3H, F2H: parameter `MULTI_PREFIX_0FAE6` (R198). -/
  | twoMandatoryPrefixes
  deriving DecidableEq, Repr

/-- What the decoder answers: an instruction and its length, a byte string the spec makes #UD, a byte string that is
only the beginning of an instruction, or one outside the spec. -/
inductive Decoded
  | instr (i : Instr) (len : Nat)
  | undefined
  | needMore
  | noMatch (why : NoMatch)
  deriving DecidableEq, Repr

/-- The legacy prefixes as read (R164), in any order; the last segment override stands. -/
structure Prefixes where
  lock : Bool
  p66 : Bool
  f2 : Bool
  f3 : Bool
  a67 : Bool
  seg : Option Seg
  deriving DecidableEq, Repr

/-- No prefix. -/
def Prefixes.none : Prefixes :=
  { lock := false, p66 := false, f2 := false, f3 := false, a67 := false, seg := Option.none }

/-- The prefixes with one more byte read, or none where the byte is no legacy prefix (R164). -/
def Prefixes.add (p : Prefixes) (b : Byte) : Option Prefixes :=
  if b = 0xF0#8 then some { p with lock := true }
  else if b = 0xF2#8 then some { p with f2 := true }
  else if b = 0xF3#8 then some { p with f3 := true }
  else if b = 0x66#8 then some { p with p66 := true }
  else if b = 0x67#8 then some { p with a67 := true }
  else if b = 0x26#8 then some { p with seg := some .es }
  else if b = 0x2E#8 then some { p with seg := some .cs }
  else if b = 0x36#8 then some { p with seg := some .ss }
  else if b = 0x3E#8 then some { p with seg := some .ds }
  else if b = 0x64#8 then some { p with seg := some .fs }
  else if b = 0x65#8 then some { p with seg := some .gs }
  else Option.none

/-- Reads the legacy prefixes off the front of an instruction. -/
def takePrefixes : Prefixes → List Byte → Prefixes × List Byte
  | p, [] => (p, [])
  | p, b :: bs =>
    match p.add b with
    | some p' => takePrefixes p' bs
    | Option.none => (p, b :: bs)

/-- The address size: 64-bit mode 64 (32 with 67H); elsewhere 32 where CS.D = 1, else 16, swapped by 67H (R167). -/
def addrSize (m : DecodeMode) (p67 : Bool) : AddrSize :=
  if m.is64 then (if p67 then .a32 else .a64) else if m.csD == p67 then .a16 else .a32

/-- The REX bits (R165). -/
structure Rex where
  w : Bool
  r : Bool
  x : Bool
  b : Bool
  deriving DecidableEq, Repr

/-- REX bits of no REX prefix. -/
def Rex.none : Rex := { w := false, r := false, x := false, b := false }

/-- A byte as a REX prefix `0100 W R X B`. -/
def Rex.ofByte (b : Byte) : Option Rex :=
  if b.extractLsb' 4 4 = 4#4 then
    some { w := b.getLsbD 3, r := b.getLsbD 2, x := b.getLsbD 1, b := b.getLsbD 0 }
  else Option.none

/-- The little-endian value of some bytes (20_memory.md R100). -/
def bytesValue : List Byte → Nat
  | [] => 0
  | b :: bs => b.toNat + 256 * bytesValue bs

/-- `n` bytes of a value, least significant first (20_memory.md R100). -/
def valueBytes : Nat → Nat → List Byte
  | 0, _ => []
  | n + 1, v => BitVec.ofNat 8 v :: valueBytes n (v / 256)

/-- A register number of four bits from an extension bit and three bits. -/
def reg4 (x : Bool) (r : BitVec 3) : GReg := BitVec.ofBool x ++ r
/-- A register number of five bits from two extension bits and three bits. -/
def reg5 (y x : Bool) (r : BitVec 3) : VReg := BitVec.ofBool y ++ (BitVec.ofBool x ++ r)

/-- Splits `n` bytes off the front, if there are so many. -/
def takeBytes : Nat → List Byte → Option (List Byte × List Byte)
  | 0, bs => some ([], bs)
  | _ + 1, [] => Option.none
  | n + 1, b :: bs =>
    match takeBytes n bs with
    | some (f, r) => some (b :: f, r)
    | Option.none => Option.none

/-- An 8-bit displacement. -/
def takeD8 (bs : List Byte) : Option (Disp × List Byte) :=
  (takeBytes 1 bs).map fun (f, r) => (.d8 (BitVec.ofNat 8 (bytesValue f)), r)
/-- A 16-bit displacement. -/
def takeD16 (bs : List Byte) : Option (Disp × List Byte) :=
  (takeBytes 2 bs).map fun (f, r) => (.d16 (BitVec.ofNat 16 (bytesValue f)), r)
/-- A 32-bit displacement. -/
def takeD32 (bs : List Byte) : Option (Disp × List Byte) :=
  (takeBytes 4 bs).map fun (f, r) => (.d32 (BitVec.ofNat 32 (bytesValue f)), r)

/-- The displacement `mod` asks for outside its special cases: none, 8 bits, or the long form `big`. -/
def takeDisp (mod : BitVec 2) (big : List Byte → Option (Disp × List Byte)) (bs : List Byte) :
    Option (Disp × List Byte) :=
  if mod = 0#2 then some (.none, bs) else if mod = 1#2 then takeD8 bs else big bs

/-- The memory operand of a ModRM byte whose `mod` is not 11b (R166); `x` and `b` extend index and base. -/
def takeMem (asz : AddrSize) (mod : BitVec 2) (rm : BitVec 3) (x b : Bool) (bs : List Byte) :
    Option (Mem × List Byte) :=
  if asz = .a16 then
    if mod = 0#2 ∧ rm = 6#3 then
      (takeBytes 2 bs).map fun (f, r) => (.disp16 (BitVec.ofNat 16 (bytesValue f)), r)
    else (takeDisp mod takeD16 bs).map fun (d, r) => (.a16 rm d, r)
  else if rm = 4#3 then
    match bs with
    | [] => Option.none
    | sib :: bs =>
      let scale := sib.extractLsb' 6 2
      let index := reg4 x (sib.extractLsb' 3 3)
      let base := sib.extractLsb' 0 3
      if mod = 0#2 ∧ base = 5#3 then (takeD32 bs).map fun (d, r) => (.sib Option.none index scale d, r)
      else (takeDisp mod takeD32 bs).map fun (d, r) => (.sib (some (reg4 b base)) index scale d, r)
  else if mod = 0#2 ∧ rm = 5#3 then
    (takeBytes 4 bs).map fun (f, r) => (.ripRel (BitVec.ofNat 32 (bytesValue f)), r)
  else (takeDisp mod takeD32 bs).map fun (d, r) => (.base (reg4 b rm) d, r)

/-- A ModRM byte and what follows it: ModRM.reg (three bits), the r/m operand (a register number takes `y`, the bit
above B, which only EVEX has), and the rest. -/
def takeModRM (asz : AddrSize) (y x b : Bool) (bs : List Byte) : Option (BitVec 3 × Rm × List Byte) :=
  match bs with
  | [] => Option.none
  | m :: bs =>
    let mod := m.extractLsb' 6 2
    let reg := m.extractLsb' 3 3
    let rm := m.extractLsb' 0 3
    if mod = 3#2 then some (reg, .reg (reg5 y b rm), bs)
    else (takeMem asz mod rm x b bs).map fun (o, r) => (reg, .mem o, r)

/-- An encoding cut into its fields, one form per encoding class of R150. `map` is 1 for 0F, 2 for 0F38, 3 for 0F3A.
`ext` of EVEX: outside 64-bit mode a register-extension bit is not as R174 demands. -/
inductive View
  | bare (p : Prefixes) (op : Byte)
  | legacy (p : Prefixes) (w : Bool) (map : BitVec 2) (op : Byte) (reg : GReg) (rm : Rm) (imm : Option Byte)
  | vex (v : Vex) (map : BitVec 5) (w l : Bool) (pp : BitVec 2) (op : Byte) (rm : Rm) (imm : Option Byte)
  | evex (e : Evex) (map : BitVec 2) (w : Bool) (ll pp : BitVec 2) (ext : Bool) (op : Byte) (rm : Rm)
    (imm : Option Byte)
  deriving DecidableEq, Repr

/-- What cutting the bytes gives: the fields and the bytes left, or an answer already. -/
inductive Parsed
  | view (v : View) (rest : List Byte)
  | undefined
  | needMore
  | noMatch (why : NoMatch)
  deriving DecidableEq, Repr

/-- The immediate byte: present exactly in map 0F3A for the opcodes of this spec (R158, R194). -/
def takeImm (has : Bool) (bs : List Byte) : Option (Option Byte × List Byte) :=
  if has then
    match bs with
    | [] => Option.none
    | b :: bs => some (some b, bs)
  else some (Option.none, bs)

/-- What the prefixes leave for a meaning. -/
def Prefixes.toPfx (p : Prefixes) (forbidden : Bool) : Pfx := { forbidden := forbidden, addr67 := p.a67, seg := p.seg }

/-- LOCK, 66H, F2H, F3H or REX before VEX or EVEX (R176). -/
def Prefixes.beforeVex (p : Prefixes) (rex : Option Rex) : Bool := p.lock || p.p66 || p.f2 || p.f3 || rex.isSome

/-- The opcodes of map 0F in scope that have no ModRM byte: CPUID and WBNOINVD. -/
def bareOps : List Byte := [0xA2#8, 0x09#8]
/-- The opcodes in scope with a ModRM byte, per map, of the legacy class. -/
def legacyOps (map : BitVec 2) : List Byte :=
  if map = 1#2 then [0x01#8, 0x1C#8, 0xAE#8] else if map = 2#2 then [0xF8#8, 0xF9#8, 0xCF#8] else [0xCE#8, 0xCF#8]
/-- The opcodes in scope of the VEX class; map 0F holds only `0F 01 C5`, PCONFIG, which VEX makes #UD. -/
def vexOps (map : BitVec 5) : List Byte :=
  if map = 1#5 then [0x01#8]
  else if map = 2#5 then [0xCF#8, 0xDC#8, 0xDD#8, 0xDE#8, 0xDF#8]
  else [0xCE#8, 0xCF#8, 0x44#8]
/-- The opcodes in scope of the EVEX class. -/
def evexOps (map : BitVec 2) : List Byte :=
  if map = 1#2 then []
  else if map = 2#2 then
    [0x62#8, 0x63#8, 0x70#8, 0x71#8, 0x72#8, 0x73#8, 0x50#8, 0x51#8, 0x52#8, 0x53#8, 0x54#8, 0x55#8, 0x8F#8,
     0xCF#8, 0xDC#8, 0xDD#8, 0xDE#8, 0xDF#8]
  else [0xCE#8, 0xCF#8, 0x44#8, 0x70#8, 0x71#8, 0x72#8, 0x73#8]

/-- After the escape bytes of a legacy opcode. -/
def parseLegacy (m : DecodeMode) (p : Prefixes) (rex : Rex) (map : BitVec 2) (bs : List Byte) : Parsed :=
  match bs with
  | [] => .needMore
  | op :: bs =>
    if map = 1#2 ∧ op ∈ bareOps then .view (.bare p op) bs
    else if op ∈ legacyOps map then
      match takeModRM (addrSize m p.a67) false rex.x rex.b bs with
      | Option.none => .needMore
      | some (reg, rm, bs) =>
        match takeImm (map = 3#2) bs with
        | Option.none => .needMore
        | some (imm, bs) => .view (.legacy p rex.w map op (reg4 rex.r reg) rm imm) bs
    else .noMatch .noRow

/-- After a VEX prefix whose fields are given (not complemented). Outside 64-bit mode the top bit of vvvv is ignored, and
only registers 0 to 7 are reachable (R172); that B, which R172 does not name, is ignored too is the model's choice (DEDUCED,
assumption 15). -/
def parseVex (m : DecodeMode) (p : Prefixes) (rex : Option Rex) (r x b : Bool) (map : BitVec 5) (w : Bool)
    (vvvv : GReg) (l : Bool) (pp : BitVec 2) (bs : List Byte) : Parsed :=
  if ¬ (map = 1#5 ∨ map = 2#5 ∨ map = 3#5) then .undefined
  else
    match bs with
    | [] => .needMore
    | op :: bs =>
      if op ∈ vexOps map then
        match takeModRM (addrSize m p.a67) false x (b && m.is64) bs with
        | Option.none => .needMore
        | some (reg, rm, bs) =>
          match takeImm (map = 3#5) bs with
          | Option.none => .needMore
          | some (imm, bs) =>
            .view (.vex { pfx := p.toPfx (p.beforeVex rex), reg := reg4 r reg,
                          vvvv := if m.is64 then vvvv else vvvv &&& 7#4 } map w l pp op rm imm) bs
      else .noMatch .noRow

/-- The EVEX rows without a vvvv operand: VPEXPAND, VPCOMPRESS, VPOPCNT, all in map 0F38. -/
def vvvvUnused (map : BitVec 2) (op : Byte) : Bool :=
  decide (map = 2#2) && decide (op ∈ [0x62#8, 0x63#8, 0x54#8, 0x55#8])

/-- After the byte 62H and its three payload bytes (R173, R174). Outside 64-bit mode bit 3 of vvvv is ignored as under VEX
(R172) and B, R' and V' must encode 0; where vvvv is unused it must still be 1111b (R176; DEDUCED, assumption 15). The
violation is #UD only if the bytes select a row (R204). -/
def parseEvex (m : DecodeMode) (p : Prefixes) (rex : Option Rex) (p0 p1 p2 : Byte) (bs : List Byte) : Parsed :=
  let map := p0.extractLsb' 0 2
  let vvvv : VReg := BitVec.ofBool (!p2.getLsbD 3) ++ ~~~(p1.extractLsb' 3 4)
  if map = 0#2 then .undefined
  else
    match bs with
    | [] => .needMore
    | op :: bs =>
      if op ∈ evexOps map then
        match takeModRM (addrSize m p.a67) (!p0.getLsbD 6) (!p0.getLsbD 6) (!p0.getLsbD 5) bs with
        | Option.none => .needMore
        | some (reg, rm, bs) =>
          match takeImm (map = 3#2) bs with
          | Option.none => .needMore
          | some (imm, bs) =>
            .view (.evex { pfx := p.toPfx (p.beforeVex rex), p0res := p0.extractLsb' 2 2, p1one := p1.getLsbD 2,
                           reg := reg5 (!p0.getLsbD 4) (!p0.getLsbD 7) reg,
                           vvvv := if m.is64 then vvvv else vvvv &&& 0x17#5,
                           aaa := p2.extractLsb' 0 3, z := p2.getLsbD 7, b := p2.getLsbD 4 }
                     map (p1.getLsbD 7) (p2.extractLsb' 5 2) (p1.extractLsb' 0 2)
                     (!m.is64 && (!p0.getLsbD 5 || !p0.getLsbD 4 || !p2.getLsbD 3 ||
                       (!p1.getLsbD 6 && vvvvUnused map op))) op rm imm) bs
      else .noMatch .noRow

/-- C4H, C5H and 62H are LES, LDS and BOUND outside 64-bit mode unless bits 7:6 of the next byte are 11b (R172). -/
def vexHere (m : DecodeMode) (next : Byte) : Bool := m.is64 || next.extractLsb' 6 2 == 3#2

/-- After the prefixes and REX: the opcode, or a VEX or EVEX prefix. -/
def parseOpcode (m : DecodeMode) (p : Prefixes) (rex : Option Rex) (bs : List Byte) : Parsed :=
  match bs with
  | [] => .needMore
  | [b] => if b = 0x0F#8 ∨ b = 0xC4#8 ∨ b = 0xC5#8 ∨ b = 0x62#8 then .needMore else .noMatch .noRow
  | b0 :: b1 :: bs =>
    if b0 = 0x0F#8 then
      if b1 = 0x38#8 then parseLegacy m p (rex.getD Rex.none) 2#2 bs
      else if b1 = 0x3A#8 then parseLegacy m p (rex.getD Rex.none) 3#2 bs
      else parseLegacy m p (rex.getD Rex.none) 1#2 (b1 :: bs)
    else if b0 = 0xC5#8 ∧ vexHere m b1 = true then
      parseVex m p rex (!b1.getLsbD 7) false false 1#5 false (~~~(b1.extractLsb' 3 4)) (b1.getLsbD 2)
        (b1.extractLsb' 0 2) bs
    else if b0 = 0xC4#8 ∧ vexHere m b1 = true then
      match bs with
      | [] => .needMore
      | b2 :: bs =>
        parseVex m p rex (!b1.getLsbD 7) (!b1.getLsbD 6) (!b1.getLsbD 5) (b1.extractLsb' 0 5) (b2.getLsbD 7)
          (~~~(b2.extractLsb' 3 4)) (b2.getLsbD 2) (b2.extractLsb' 0 2) bs
    else if b0 = 0x62#8 ∧ vexHere m b1 = true then
      match bs with
      | b2 :: b3 :: bs => parseEvex m p rex b1 b2 b3 bs
      | _ => .needMore
    else .noMatch .noRow

/-- Cuts an instruction's bytes into fields. A REX byte counts only in 64-bit mode and only right before the opcode
(R165); elsewhere the bytes 40H to 4FH are other instructions, outside the spec. -/
def parse (m : DecodeMode) (bytes : List Byte) : Parsed :=
  let (p, bs) := takePrefixes Prefixes.none bytes
  match bs with
  | [] => .needMore
  | b :: bs' =>
    match (if m.is64 then Rex.ofByte b else Option.none) with
    | Option.none => parseOpcode m p Option.none bs
    | some rex =>
      match bs' with
      | [] => .needMore
      | c :: _ =>
        if (p.add c).isSome ∨ (Rex.ofByte c).isSome then .noMatch .rexMisplaced
        else parseOpcode m p (some rex) bs'

/-! ## Decoding: selecting the row -/

/-- What selecting a row answers. -/
inductive Built
  | instr (i : Instr)
  | undefined
  | noMatch (why : NoMatch)
  deriving DecidableEq, Repr

/-- How a VEX or EVEX row makes its instruction from the fields. -/
inductive VexMk
  | rm (f : Vex → Rm → Instr)
  | rmImm (f : Vex → Rm → Byte → Instr)
/-- As `VexMk`, with the rows that split by `mod` (VPCOMPRESS, VPEXPAND). -/
inductive EvexMk
  | rm (f : Evex → Rm → Instr)
  | rmImm (f : Evex → Rm → Byte → Instr)
  | split (mem : Evex → Mem → Instr) (reg : Evex → VReg → Instr)

/-- One VEX row: map, opcode, W (none is WIG), L, instruction. pp is 66H in every row (R159). -/
structure VexRow where
  map : BitVec 5
  op : Byte
  w : Option Bool
  l : Bool
  make : VexMk
/-- One EVEX row: map, opcode, W (none is WIG), L'L, instruction. pp is 66H in every row (R160). -/
structure EvexRow where
  map : BitVec 2
  op : Byte
  w : Option Bool
  ll : BitVec 2
  make : EvexMk

/-- The VEX rows of spec/opcode_table.json. -/
def vexRows : List VexRow :=
  [ ⟨3#5, 0xCE#8, (some true), false, .rmImm .vgf2p8affineqbVex128⟩,
    ⟨3#5, 0xCE#8, (some true), true, .rmImm .vgf2p8affineqbVex256⟩,
    ⟨3#5, 0xCF#8, (some true), false, .rmImm .vgf2p8affineinvqbVex128⟩,
    ⟨3#5, 0xCF#8, (some true), true, .rmImm .vgf2p8affineinvqbVex256⟩,
    ⟨2#5, 0xCF#8, (some false), false, .rm .vgf2p8mulbVex128⟩,
    ⟨2#5, 0xCF#8, (some false), true, .rm .vgf2p8mulbVex256⟩,
    ⟨2#5, 0xDE#8, Option.none, true, .rm .vaesdecVex256⟩,
    ⟨2#5, 0xDF#8, Option.none, true, .rm .vaesdeclastVex256⟩,
    ⟨2#5, 0xDC#8, Option.none, true, .rm .vaesencVex256⟩,
    ⟨2#5, 0xDD#8, Option.none, true, .rm .vaesenclastVex256⟩,
    ⟨3#5, 0x44#8, Option.none, true, .rmImm .vpclmulqdqVex256⟩ ]

/-- The EVEX rows of GFNI. -/
def evexRowsGfni : List EvexRow :=
  [ ⟨3#2, 0xCE#8, (some true), 0#2, .rmImm .vgf2p8affineqb128⟩,
    ⟨3#2, 0xCE#8, (some true), 1#2, .rmImm .vgf2p8affineqb256⟩,
    ⟨3#2, 0xCE#8, (some true), 2#2, .rmImm .vgf2p8affineqb512⟩,
    ⟨3#2, 0xCF#8, (some true), 0#2, .rmImm .vgf2p8affineinvqb128⟩,
    ⟨3#2, 0xCF#8, (some true), 1#2, .rmImm .vgf2p8affineinvqb256⟩,
    ⟨3#2, 0xCF#8, (some true), 2#2, .rmImm .vgf2p8affineinvqb512⟩,
    ⟨2#2, 0xCF#8, (some false), 0#2, .rm .vgf2p8mulb128⟩,
    ⟨2#2, 0xCF#8, (some false), 1#2, .rm .vgf2p8mulb256⟩,
    ⟨2#2, 0xCF#8, (some false), 2#2, .rm .vgf2p8mulb512⟩ ]

/-- The EVEX rows of VAES and VPCLMULQDQ. -/
def evexRowsAes : List EvexRow :=
  [ ⟨2#2, 0xDE#8, Option.none, 0#2, .rm .vaesdec128⟩,
    ⟨2#2, 0xDE#8, Option.none, 1#2, .rm .vaesdec256⟩,
    ⟨2#2, 0xDE#8, Option.none, 2#2, .rm .vaesdec512⟩,
    ⟨2#2, 0xDF#8, Option.none, 0#2, .rm .vaesdeclast128⟩,
    ⟨2#2, 0xDF#8, Option.none, 1#2, .rm .vaesdeclast256⟩,
    ⟨2#2, 0xDF#8, Option.none, 2#2, .rm .vaesdeclast512⟩,
    ⟨2#2, 0xDC#8, Option.none, 0#2, .rm .vaesenc128⟩,
    ⟨2#2, 0xDC#8, Option.none, 1#2, .rm .vaesenc256⟩,
    ⟨2#2, 0xDC#8, Option.none, 2#2, .rm .vaesenc512⟩,
    ⟨2#2, 0xDD#8, Option.none, 0#2, .rm .vaesenclast128⟩,
    ⟨2#2, 0xDD#8, Option.none, 1#2, .rm .vaesenclast256⟩,
    ⟨2#2, 0xDD#8, Option.none, 2#2, .rm .vaesenclast512⟩,
    ⟨3#2, 0x44#8, Option.none, 0#2, .rmImm .vpclmulqdq128⟩,
    ⟨3#2, 0x44#8, Option.none, 1#2, .rmImm .vpclmulqdq256⟩,
    ⟨3#2, 0x44#8, Option.none, 2#2, .rmImm .vpclmulqdq512⟩ ]

/-- The EVEX rows of VPCOMPRESS and VPEXPAND. -/
def evexRowsCompress : List EvexRow :=
  [ ⟨2#2, 0x63#8, (some false), 0#2, .split .vpcompressbMem128 .vpcompressbReg128⟩,
    ⟨2#2, 0x63#8, (some false), 1#2, .split .vpcompressbMem256 .vpcompressbReg256⟩,
    ⟨2#2, 0x63#8, (some false), 2#2, .split .vpcompressbMem512 .vpcompressbReg512⟩,
    ⟨2#2, 0x63#8, (some true), 0#2, .split .vpcompresswMem128 .vpcompresswReg128⟩,
    ⟨2#2, 0x63#8, (some true), 1#2, .split .vpcompresswMem256 .vpcompresswReg256⟩,
    ⟨2#2, 0x63#8, (some true), 2#2, .split .vpcompresswMem512 .vpcompresswReg512⟩,
    ⟨2#2, 0x62#8, (some false), 0#2, .split .vpexpandbMem128 .vpexpandbReg128⟩,
    ⟨2#2, 0x62#8, (some false), 1#2, .split .vpexpandbMem256 .vpexpandbReg256⟩,
    ⟨2#2, 0x62#8, (some false), 2#2, .split .vpexpandbMem512 .vpexpandbReg512⟩,
    ⟨2#2, 0x62#8, (some true), 0#2, .split .vpexpandwMem128 .vpexpandwReg128⟩,
    ⟨2#2, 0x62#8, (some true), 1#2, .split .vpexpandwMem256 .vpexpandwReg256⟩,
    ⟨2#2, 0x62#8, (some true), 2#2, .split .vpexpandwMem512 .vpexpandwReg512⟩ ]

/-- The EVEX rows of concat-and-shift. -/
def evexRowsShift : List EvexRow :=
  [ ⟨3#2, 0x70#8, (some true), 0#2, .rmImm .vpshldw128⟩,
    ⟨3#2, 0x70#8, (some true), 1#2, .rmImm .vpshldw256⟩,
    ⟨3#2, 0x70#8, (some true), 2#2, .rmImm .vpshldw512⟩,
    ⟨3#2, 0x71#8, (some false), 0#2, .rmImm .vpshldd128⟩,
    ⟨3#2, 0x71#8, (some false), 1#2, .rmImm .vpshldd256⟩,
    ⟨3#2, 0x71#8, (some false), 2#2, .rmImm .vpshldd512⟩,
    ⟨3#2, 0x71#8, (some true), 0#2, .rmImm .vpshldq128⟩,
    ⟨3#2, 0x71#8, (some true), 1#2, .rmImm .vpshldq256⟩,
    ⟨3#2, 0x71#8, (some true), 2#2, .rmImm .vpshldq512⟩,
    ⟨2#2, 0x70#8, (some true), 0#2, .rm .vpshldvw128⟩,
    ⟨2#2, 0x70#8, (some true), 1#2, .rm .vpshldvw256⟩,
    ⟨2#2, 0x70#8, (some true), 2#2, .rm .vpshldvw512⟩,
    ⟨2#2, 0x71#8, (some false), 0#2, .rm .vpshldvd128⟩,
    ⟨2#2, 0x71#8, (some false), 1#2, .rm .vpshldvd256⟩,
    ⟨2#2, 0x71#8, (some false), 2#2, .rm .vpshldvd512⟩,
    ⟨2#2, 0x71#8, (some true), 0#2, .rm .vpshldvq128⟩,
    ⟨2#2, 0x71#8, (some true), 1#2, .rm .vpshldvq256⟩,
    ⟨2#2, 0x71#8, (some true), 2#2, .rm .vpshldvq512⟩,
    ⟨3#2, 0x72#8, (some true), 0#2, .rmImm .vpshrdw128⟩,
    ⟨3#2, 0x72#8, (some true), 1#2, .rmImm .vpshrdw256⟩,
    ⟨3#2, 0x72#8, (some true), 2#2, .rmImm .vpshrdw512⟩,
    ⟨3#2, 0x73#8, (some false), 0#2, .rmImm .vpshrdd128⟩,
    ⟨3#2, 0x73#8, (some false), 1#2, .rmImm .vpshrdd256⟩,
    ⟨3#2, 0x73#8, (some false), 2#2, .rmImm .vpshrdd512⟩,
    ⟨3#2, 0x73#8, (some true), 0#2, .rmImm .vpshrdq128⟩,
    ⟨3#2, 0x73#8, (some true), 1#2, .rmImm .vpshrdq256⟩,
    ⟨3#2, 0x73#8, (some true), 2#2, .rmImm .vpshrdq512⟩,
    ⟨2#2, 0x72#8, (some true), 0#2, .rm .vpshrdvw128⟩,
    ⟨2#2, 0x72#8, (some true), 1#2, .rm .vpshrdvw256⟩,
    ⟨2#2, 0x72#8, (some true), 2#2, .rm .vpshrdvw512⟩,
    ⟨2#2, 0x73#8, (some false), 0#2, .rm .vpshrdvd128⟩,
    ⟨2#2, 0x73#8, (some false), 1#2, .rm .vpshrdvd256⟩,
    ⟨2#2, 0x73#8, (some false), 2#2, .rm .vpshrdvd512⟩,
    ⟨2#2, 0x73#8, (some true), 0#2, .rm .vpshrdvq128⟩,
    ⟨2#2, 0x73#8, (some true), 1#2, .rm .vpshrdvq256⟩,
    ⟨2#2, 0x73#8, (some true), 2#2, .rm .vpshrdvq512⟩ ]

/-- The EVEX rows of VNNI. -/
def evexRowsDot : List EvexRow :=
  [ ⟨2#2, 0x50#8, (some false), 0#2, .rm .vpdpbusd128⟩,
    ⟨2#2, 0x50#8, (some false), 1#2, .rm .vpdpbusd256⟩,
    ⟨2#2, 0x50#8, (some false), 2#2, .rm .vpdpbusd512⟩,
    ⟨2#2, 0x51#8, (some false), 0#2, .rm .vpdpbusds128⟩,
    ⟨2#2, 0x51#8, (some false), 1#2, .rm .vpdpbusds256⟩,
    ⟨2#2, 0x51#8, (some false), 2#2, .rm .vpdpbusds512⟩,
    ⟨2#2, 0x52#8, (some false), 0#2, .rm .vpdpwssd128⟩,
    ⟨2#2, 0x52#8, (some false), 1#2, .rm .vpdpwssd256⟩,
    ⟨2#2, 0x52#8, (some false), 2#2, .rm .vpdpwssd512⟩,
    ⟨2#2, 0x53#8, (some false), 0#2, .rm .vpdpwssds128⟩,
    ⟨2#2, 0x53#8, (some false), 1#2, .rm .vpdpwssds256⟩,
    ⟨2#2, 0x53#8, (some false), 2#2, .rm .vpdpwssds512⟩ ]

/-- The EVEX rows of BITALG and VPOPCNTDQ. -/
def evexRowsBit : List EvexRow :=
  [ ⟨2#2, 0x54#8, (some false), 0#2, .rm .vpopcntb128⟩,
    ⟨2#2, 0x54#8, (some false), 1#2, .rm .vpopcntb256⟩,
    ⟨2#2, 0x54#8, (some false), 2#2, .rm .vpopcntb512⟩,
    ⟨2#2, 0x54#8, (some true), 0#2, .rm .vpopcntw128⟩,
    ⟨2#2, 0x54#8, (some true), 1#2, .rm .vpopcntw256⟩,
    ⟨2#2, 0x54#8, (some true), 2#2, .rm .vpopcntw512⟩,
    ⟨2#2, 0x55#8, (some false), 0#2, .rm .vpopcntd128⟩,
    ⟨2#2, 0x55#8, (some false), 1#2, .rm .vpopcntd256⟩,
    ⟨2#2, 0x55#8, (some false), 2#2, .rm .vpopcntd512⟩,
    ⟨2#2, 0x55#8, (some true), 0#2, .rm .vpopcntq128⟩,
    ⟨2#2, 0x55#8, (some true), 1#2, .rm .vpopcntq256⟩,
    ⟨2#2, 0x55#8, (some true), 2#2, .rm .vpopcntq512⟩,
    ⟨2#2, 0x8F#8, (some false), 0#2, .rm .vpshufbitqmb128⟩,
    ⟨2#2, 0x8F#8, (some false), 1#2, .rm .vpshufbitqmb256⟩,
    ⟨2#2, 0x8F#8, (some false), 2#2, .rm .vpshufbitqmb512⟩ ]

/-- The EVEX rows of spec/opcode_table.json. -/
def evexRows : List EvexRow :=
  evexRowsGfni ++ evexRowsAes ++ evexRowsCompress ++ evexRowsShift ++ evexRowsDot ++ evexRowsBit

/-- Does W have the value the row asks for (WIG: either)? -/
def wMatches (row : Option Bool) (w : Bool) : Bool := row.isNone || row == some w

/-- Selecting among the VEX rows. W unassigned is #UD (R161, D32); anything else that fits no row is outside the spec,
but for PCONFIG's bytes under VEX, which are #UD (R198). -/
def buildVex (v : Vex) (map : BitVec 5) (w l : Bool) (pp : BitVec 2) (op : Byte) (rm : Rm) (imm : Option Byte) : Built :=
  if map = 1#5 then
    if v.reg &&& 7#4 = 0#4 ∧ (rm = .reg 5#5 ∨ rm = .reg 13#5) then .undefined else .noMatch .noRow
  else if pp ≠ 1#2 then .noMatch .noRow
  else
    match vexRows.find? fun r => r.map == map && r.op == op && wMatches r.w w && r.l == l with
    | some r =>
      match r.make, imm with
      | .rm f, _ => .instr (f v rm)
      | .rmImm f, some b => .instr (f v rm b)
      | .rmImm _, Option.none => .noMatch .noRow
    | Option.none => if vexRows.any fun r => r.map == map && r.op == op && r.l == l then .undefined else .noMatch .noRow

/-- Selecting among the EVEX rows. W unassigned is #UD (R161, D32), and so are L'L = 11b (R173) and, on bytes that select
a row, a register-extension bit that must be 0 outside 64-bit mode (R174, R204). -/
def buildEvex (e : Evex) (map : BitVec 2) (w : Bool) (ll pp : BitVec 2) (ext : Bool) (op : Byte) (rm : Rm)
    (imm : Option Byte) : Built :=
  if pp ≠ 1#2 then .noMatch .noRow
  else if ext && evexRows.any fun r => r.map == map && r.op == op then .undefined
  else
    match evexRows.find? fun r => r.map == map && r.op == op && wMatches r.w w && r.ll == ll with
    | some r =>
      match r.make, rm, imm with
      | .rm f, _, _ => .instr (f e rm)
      | .rmImm f, _, some b => .instr (f e rm b)
      | .rmImm _, _, Option.none => .noMatch .noRow
      | .split f _, .mem m, _ => .instr (f e m)
      | .split _ f, .reg r, _ => .instr (f e r)
    | Option.none => if evexRows.any fun r => r.map == map && r.op == op then .undefined else .noMatch .noRow

/-- Selecting among the opcodes without ModRM: CPUID takes any prefix, WBNOINVD is F3 0F 09 (R220, R330). -/
def buildBare (p : Prefixes) (op : Byte) : Built :=
  if op = 0xA2#8 then .instr (.cpuid (p.toPfx p.lock))
  else if op = 0x09#8 ∧ p.f3 = true then .instr (.wbnoinvd (p.toPfx p.lock))
  else .noMatch .noRow

/-- `0F AE`: /6 with mod = 11b and exactly one of 66H (TPAUSE), F3H (UMONITOR), F2H (UMWAIT); the memory form is #UD
(R157, R195, R196), though 93_implementation_defined.md U18 lists it among the refused (DEDUCED, assumption 45). -/
def buildAE (p : Prefixes) (reg : GReg) (rm : Rm) : Built :=
  if reg &&& 7#4 ≠ 6#4 then .noMatch .noRow
  else
    match p.p66, p.f3, p.f2 with
    | false, false, false => .noMatch .noRow
    | true, false, false =>
      match rm with
      | .reg r => .instr (.tpause (p.toPfx p.lock) (r.setWidth 4))
      | .mem _ => .undefined
    | false, true, false =>
      match rm with
      | .reg r => .instr (.umonitor (p.toPfx p.lock) (r.setWidth 4))
      | .mem _ => .undefined
    | false, false, true =>
      match rm with
      | .reg r => .instr (.umwait (p.toPfx p.lock) (r.setWidth 4))
      | .mem _ => .undefined
    | _, _, _ => .noMatch .twoMandatoryPrefixes

/-- Selecting among the legacy opcodes with ModRM (R153 to R157, R195, R196). GFNI's rows, whose mandatory
prefix is 66H and which are not NP, are selected by 66H whatever F2H or F3H stands beside it (R204 (a)). With F2H or F3H the
opcode of MOVDIR64B matches no row (42_cldemote_movdir_wbnoinvd.md R333). -/
def buildLegacy (p : Prefixes) (w : Bool) (map : BitVec 2) (op : Byte) (reg : GReg) (rm : Rm) (imm : Option Byte) :
    Built :=
  let np := !p.p66 && !p.f2 && !p.f3
  if map = 1#2 then
    if op = 0x01#8 then
      if reg &&& 7#4 = 0#4 ∧ (rm = .reg 5#5 ∨ rm = .reg 13#5) then
        if np then .instr (.pconfig (p.toPfx p.lock)) else .undefined
      else .noMatch .noRow
    else if op = 0x1C#8 then
      match rm with
      | .mem m => if reg &&& 7#4 = 0#4 ∧ np = true then .instr (.cldemote (p.toPfx p.lock) m) else .noMatch .noRow
      | .reg _ => .noMatch .noRow
    else if op = 0xAE#8 then buildAE p reg rm
    else .noMatch .noRow
  else if map = 2#2 then
    if op = 0xF9#8 then
      if p.p66 then .undefined
      else if np then
        match rm with
        | .mem m => if w then .instr (.movdiri64 (p.toPfx p.lock) reg m) else .instr (.movdiri32 (p.toPfx p.lock) reg m)
        | .reg _ => .undefined
      else .noMatch .noRow
    else if op = 0xF8#8 then
      if p.p66 && !p.f2 && !p.f3 then
        match rm with
        | .mem m => .instr (.movdir64b (p.toPfx p.lock) reg m)
        | .reg _ => .undefined
      else .noMatch .noRow
    else if op = 0xCF#8 ∧ p.p66 = true then .instr (.gf2p8mulb (p.toPfx p.lock) reg rm)
    else .noMatch .noRow
  else
    match imm with
    | some b =>
      if op = 0xCE#8 ∧ p.p66 = true then .instr (.gf2p8affineqb (p.toPfx p.lock) reg rm b)
      else if op = 0xCF#8 ∧ p.p66 = true then .instr (.gf2p8affineinvqb (p.toPfx p.lock) reg rm b)
      else .noMatch .noRow
    | Option.none => .noMatch .noRow

/-- Selecting the row of an encoding that has been cut into fields. -/
def build : View → Built
  | .bare p op => buildBare p op
  | .legacy p w map op reg rm imm => buildLegacy p w map op reg rm imm
  | .vex v map w l pp op rm imm => buildVex v map w l pp op rm imm
  | .evex e map w ll pp ext op rm imm => buildEvex e map w ll pp ext op rm imm

/-- The decoder: the instruction at the front of some bytes, with its length (R150, R151), or why there is none. -/
def decode (m : DecodeMode) (bytes : List Byte) : Decoded :=
  match parse m bytes with
  | .needMore => .needMore
  | .undefined => .undefined
  | .noMatch why => .noMatch why
  | .view v rest =>
    match build v with
    | .instr i => .instr i (bytes.length - rest.length)
    | .undefined => .undefined
    | .noMatch why => .noMatch why

/-- The mode every word of the opcode table is read in: 64-bit mode (00_scope.md R8, `mode`). -/
def DecodeMode.long : DecodeMode := { is64 := true, csD := false }

/-- The bytes of a table word, as memory holds them: 15 bytes, the first at the lowest address, the bits from `nbits`
up zero (R100, R151). -/
def tableBytes (nbits w : Nat) : List Byte := valueBytes 15 (w % 2 ^ nbits)

/-- The instruction the decoder reads from a table word in 64-bit mode. -/
def decodeTableWord (nbits w : Nat) : Option Instr :=
  match decode DecodeMode.long (tableBytes nbits w) with
  | .instr i _ => some i
  | _ => Option.none

/-! ## Encoding, from the same tables of the spec -/

/-- A flag's byte, if it is set. -/
def byteIf (c : Bool) (b : Byte) : List Byte := if c then [b] else []

/-- The prefix byte of a segment override. -/
def Seg.byte : Seg → Byte
  | .es => 0x26#8 | .cs => 0x2E#8 | .ss => 0x36#8 | .ds => 0x3E#8 | .fs => 0x64#8 | .gs => 0x65#8

/-- The segment-override byte, if any. -/
def segBytes : Option Seg → List Byte
  | Option.none => []
  | some s => [s.byte]

/-- The legacy prefixes as bytes. -/
def Prefixes.bytes (p : Prefixes) : List Byte :=
  byteIf p.lock 0xF0#8 ++ byteIf p.a67 0x67#8 ++ segBytes p.seg ++ byteIf p.p66 0x66#8 ++ byteIf p.f3 0xF3#8 ++
    byteIf p.f2 0xF2#8

/-- The prefixes of a meaning's `Pfx` with the mandatory ones given. -/
def Pfx.toPrefixes (p : Pfx) (p66 f3 f2 : Bool) : Prefixes :=
  { lock := p.forbidden, p66 := p66, f2 := f2, f3 := f3, a67 := p.addr67, seg := p.seg }

/-- The bytes of a displacement. -/
def Disp.bytes : Disp → List Byte
  | .none => []
  | .d8 v => [v]
  | .d16 v => valueBytes 2 v.toNat
  | .d32 v => valueBytes 4 v.toNat

/-- The `mod` field of a displacement. -/
def Disp.mod : Disp → BitVec 2
  | .none => 0#2
  | .d8 _ => 1#2
  | .d16 _ => 2#2
  | .d32 _ => 2#2

/-- The fields of an r/m operand: mod, rm, the extension bits Y (register numbers above 15), X and B, and the bytes
after ModRM (R166). -/
structure RmFields where
  mod : BitVec 2
  rm : BitVec 3
  x : Bool
  b : Bool
  tail : List Byte
  deriving DecidableEq, Repr

/-- The low three bits of a register number. -/
def low3 (r : GReg) : BitVec 3 := r.extractLsb' 0 3

/-- The fields of a memory operand. -/
def Mem.fields : Mem → RmFields
  | .base r d => { mod := d.mod, rm := low3 r, x := false, b := r.getLsbD 3, tail := d.bytes }
  | .ripRel d => { mod := 0#2, rm := 5#3, x := false, b := false, tail := valueBytes 4 d.toNat }
  | .sib (some r) i s d =>
    { mod := d.mod, rm := 4#3, x := i.getLsbD 3, b := r.getLsbD 3, tail := (s ++ (low3 i ++ low3 r)) :: d.bytes }
  | .sib Option.none i s d =>
    { mod := 0#2, rm := 4#3, x := i.getLsbD 3, b := false, tail := (s ++ (low3 i ++ 5#3)) :: d.bytes }
  | .a16 rm d => { mod := d.mod, rm := rm, x := false, b := false, tail := d.bytes }
  | .disp16 d => { mod := 0#2, rm := 6#3, x := false, b := false, tail := valueBytes 2 d.toNat }

/-- The fields of an r/m operand; a register's fifth bit goes to X, as EVEX has it (R174). -/
def Rm.fields : Rm → RmFields
  | .reg r => { mod := 3#2, rm := r.extractLsb' 0 3, x := r.getLsbD 4, b := r.getLsbD 3, tail := [] }
  | .mem m => m.fields

/-- The ModRM byte and what follows it. -/
def RmFields.bytes (f : RmFields) (reg : BitVec 3) : List Byte := (f.mod ++ (reg ++ f.rm)) :: f.tail

/-- The REX byte, left out where no bit of it is set (R165). -/
def rexBytes (w r x b : Bool) : List Byte :=
  if w || r || x || b then [4#4 ++ (BitVec.ofBool w ++ (BitVec.ofBool r ++ (BitVec.ofBool x ++ BitVec.ofBool b)))] else []

/-- The escape bytes of a map. -/
def escapeBytes (map : BitVec 2) : List Byte :=
  if map = 2#2 then [0x0F#8, 0x38#8] else if map = 3#2 then [0x0F#8, 0x3A#8] else [0x0F#8]

/-- The bytes of an encoding given by its fields. -/
def emit : View → List Byte
  | .bare p op => p.bytes ++ [0x0F#8, op]
  | .legacy p w map op reg rm imm =>
    let f := rm.fields
    p.bytes ++ rexBytes w (reg.getLsbD 3) f.x f.b ++ escapeBytes map ++ [op] ++ f.bytes (low3 reg) ++ imm.toList
  | .vex v map w l pp op rm imm =>
    let f := rm.fields
    (v.pfx.toPrefixes false false false).bytes ++
      [0xC4#8,
       BitVec.ofBool (!v.reg.getLsbD 3) ++ (BitVec.ofBool (!f.x) ++ (BitVec.ofBool (!f.b) ++ map)),
       BitVec.ofBool w ++ (~~~v.vvvv ++ (BitVec.ofBool l ++ pp)), op] ++
      f.bytes (low3 v.reg) ++ imm.toList
  | .evex e map w ll pp _ op rm imm =>
    let f := rm.fields
    (e.pfx.toPrefixes false false false).bytes ++
      [0x62#8,
       BitVec.ofBool (!e.reg.getLsbD 3) ++ (BitVec.ofBool (!f.x) ++ (BitVec.ofBool (!f.b) ++
         (BitVec.ofBool (!e.reg.getLsbD 4) ++ (e.p0res ++ map)))),
       BitVec.ofBool w ++ (~~~(e.vvvv.extractLsb' 0 4) ++ (BitVec.ofBool e.p1one ++ pp)),
       BitVec.ofBool e.z ++ (ll ++ (BitVec.ofBool e.b ++ (BitVec.ofBool (!e.vvvv.getLsbD 4) ++ e.aaa))), op] ++
      f.bytes (e.reg.extractLsb' 0 3) ++ imm.toList

/-- The fields of an instruction's encoding: its row of spec/opcode_table.json (WIG rows with W = 0). -/
def view : Instr → View
  | .cpuid p => .bare (p.toPrefixes false false false) 0xA2#8
  | .cldemote p m => .legacy (p.toPrefixes false false false) false 1#2 0x1C#8 0#4 (.mem m) Option.none
  | .movdiri32 p r m => .legacy (p.toPrefixes false false false) false 2#2 0xF9#8 r (.mem m) Option.none
  | .movdiri64 p r m => .legacy (p.toPrefixes false false false) true 2#2 0xF9#8 r (.mem m) Option.none
  | .movdir64b p r m => .legacy (p.toPrefixes true false false) false 2#2 0xF8#8 r (.mem m) Option.none
  | .wbnoinvd p => .bare (p.toPrefixes false true false) 0x09#8
  | .pconfig p => .legacy (p.toPrefixes false false false) false 1#2 0x01#8 0#4 (.reg 5#5) Option.none
  | .tpause p r => .legacy (p.toPrefixes true false false) false 1#2 0xAE#8 6#4 (.reg (r.setWidth 5)) Option.none
  | .umonitor p r => .legacy (p.toPrefixes false true false) false 1#2 0xAE#8 6#4 (.reg (r.setWidth 5)) Option.none
  | .umwait p r => .legacy (p.toPrefixes false false true) false 1#2 0xAE#8 6#4 (.reg (r.setWidth 5)) Option.none
  | .gf2p8affineqb p r rm imm => .legacy (p.toPrefixes true false false) false 3#2 0xCE#8 r rm (some imm)
  | .vgf2p8affineqbVex128 v rm imm => .vex v 3#5 true false 1#2 0xCE#8 rm (some imm)
  | .vgf2p8affineqbVex256 v rm imm => .vex v 3#5 true true 1#2 0xCE#8 rm (some imm)
  | .vgf2p8affineqb128 e rm imm => .evex e 3#2 true 0#2 1#2 false 0xCE#8 rm (some imm)
  | .vgf2p8affineqb256 e rm imm => .evex e 3#2 true 1#2 1#2 false 0xCE#8 rm (some imm)
  | .vgf2p8affineqb512 e rm imm => .evex e 3#2 true 2#2 1#2 false 0xCE#8 rm (some imm)
  | .gf2p8affineinvqb p r rm imm => .legacy (p.toPrefixes true false false) false 3#2 0xCF#8 r rm (some imm)
  | .vgf2p8affineinvqbVex128 v rm imm => .vex v 3#5 true false 1#2 0xCF#8 rm (some imm)
  | .vgf2p8affineinvqbVex256 v rm imm => .vex v 3#5 true true 1#2 0xCF#8 rm (some imm)
  | .vgf2p8affineinvqb128 e rm imm => .evex e 3#2 true 0#2 1#2 false 0xCF#8 rm (some imm)
  | .vgf2p8affineinvqb256 e rm imm => .evex e 3#2 true 1#2 1#2 false 0xCF#8 rm (some imm)
  | .vgf2p8affineinvqb512 e rm imm => .evex e 3#2 true 2#2 1#2 false 0xCF#8 rm (some imm)
  | .gf2p8mulb p r rm => .legacy (p.toPrefixes true false false) false 2#2 0xCF#8 r rm Option.none
  | .vgf2p8mulbVex128 v rm => .vex v 2#5 false false 1#2 0xCF#8 rm Option.none
  | .vgf2p8mulbVex256 v rm => .vex v 2#5 false true 1#2 0xCF#8 rm Option.none
  | .vgf2p8mulb128 e rm => .evex e 2#2 false 0#2 1#2 false 0xCF#8 rm Option.none
  | .vgf2p8mulb256 e rm => .evex e 2#2 false 1#2 1#2 false 0xCF#8 rm Option.none
  | .vgf2p8mulb512 e rm => .evex e 2#2 false 2#2 1#2 false 0xCF#8 rm Option.none
  | .vaesdecVex256 v rm => .vex v 2#5 false true 1#2 0xDE#8 rm Option.none
  | .vaesdec128 e rm => .evex e 2#2 false 0#2 1#2 false 0xDE#8 rm Option.none
  | .vaesdec256 e rm => .evex e 2#2 false 1#2 1#2 false 0xDE#8 rm Option.none
  | .vaesdec512 e rm => .evex e 2#2 false 2#2 1#2 false 0xDE#8 rm Option.none
  | .vaesdeclastVex256 v rm => .vex v 2#5 false true 1#2 0xDF#8 rm Option.none
  | .vaesdeclast128 e rm => .evex e 2#2 false 0#2 1#2 false 0xDF#8 rm Option.none
  | .vaesdeclast256 e rm => .evex e 2#2 false 1#2 1#2 false 0xDF#8 rm Option.none
  | .vaesdeclast512 e rm => .evex e 2#2 false 2#2 1#2 false 0xDF#8 rm Option.none
  | .vaesencVex256 v rm => .vex v 2#5 false true 1#2 0xDC#8 rm Option.none
  | .vaesenc128 e rm => .evex e 2#2 false 0#2 1#2 false 0xDC#8 rm Option.none
  | .vaesenc256 e rm => .evex e 2#2 false 1#2 1#2 false 0xDC#8 rm Option.none
  | .vaesenc512 e rm => .evex e 2#2 false 2#2 1#2 false 0xDC#8 rm Option.none
  | .vaesenclastVex256 v rm => .vex v 2#5 false true 1#2 0xDD#8 rm Option.none
  | .vaesenclast128 e rm => .evex e 2#2 false 0#2 1#2 false 0xDD#8 rm Option.none
  | .vaesenclast256 e rm => .evex e 2#2 false 1#2 1#2 false 0xDD#8 rm Option.none
  | .vaesenclast512 e rm => .evex e 2#2 false 2#2 1#2 false 0xDD#8 rm Option.none
  | .vpclmulqdqVex256 v rm imm => .vex v 3#5 false true 1#2 0x44#8 rm (some imm)
  | .vpclmulqdq128 e rm imm => .evex e 3#2 false 0#2 1#2 false 0x44#8 rm (some imm)
  | .vpclmulqdq256 e rm imm => .evex e 3#2 false 1#2 1#2 false 0x44#8 rm (some imm)
  | .vpclmulqdq512 e rm imm => .evex e 3#2 false 2#2 1#2 false 0x44#8 rm (some imm)
  | .vpcompressbMem128 e m => .evex e 2#2 false 0#2 1#2 false 0x63#8 (.mem m) Option.none
  | .vpcompressbReg128 e r => .evex e 2#2 false 0#2 1#2 false 0x63#8 (.reg r) Option.none
  | .vpcompressbMem256 e m => .evex e 2#2 false 1#2 1#2 false 0x63#8 (.mem m) Option.none
  | .vpcompressbReg256 e r => .evex e 2#2 false 1#2 1#2 false 0x63#8 (.reg r) Option.none
  | .vpcompressbMem512 e m => .evex e 2#2 false 2#2 1#2 false 0x63#8 (.mem m) Option.none
  | .vpcompressbReg512 e r => .evex e 2#2 false 2#2 1#2 false 0x63#8 (.reg r) Option.none
  | .vpcompresswMem128 e m => .evex e 2#2 true 0#2 1#2 false 0x63#8 (.mem m) Option.none
  | .vpcompresswReg128 e r => .evex e 2#2 true 0#2 1#2 false 0x63#8 (.reg r) Option.none
  | .vpcompresswMem256 e m => .evex e 2#2 true 1#2 1#2 false 0x63#8 (.mem m) Option.none
  | .vpcompresswReg256 e r => .evex e 2#2 true 1#2 1#2 false 0x63#8 (.reg r) Option.none
  | .vpcompresswMem512 e m => .evex e 2#2 true 2#2 1#2 false 0x63#8 (.mem m) Option.none
  | .vpcompresswReg512 e r => .evex e 2#2 true 2#2 1#2 false 0x63#8 (.reg r) Option.none
  | .vpexpandbMem128 e m => .evex e 2#2 false 0#2 1#2 false 0x62#8 (.mem m) Option.none
  | .vpexpandbReg128 e r => .evex e 2#2 false 0#2 1#2 false 0x62#8 (.reg r) Option.none
  | .vpexpandbMem256 e m => .evex e 2#2 false 1#2 1#2 false 0x62#8 (.mem m) Option.none
  | .vpexpandbReg256 e r => .evex e 2#2 false 1#2 1#2 false 0x62#8 (.reg r) Option.none
  | .vpexpandbMem512 e m => .evex e 2#2 false 2#2 1#2 false 0x62#8 (.mem m) Option.none
  | .vpexpandbReg512 e r => .evex e 2#2 false 2#2 1#2 false 0x62#8 (.reg r) Option.none
  | .vpexpandwMem128 e m => .evex e 2#2 true 0#2 1#2 false 0x62#8 (.mem m) Option.none
  | .vpexpandwReg128 e r => .evex e 2#2 true 0#2 1#2 false 0x62#8 (.reg r) Option.none
  | .vpexpandwMem256 e m => .evex e 2#2 true 1#2 1#2 false 0x62#8 (.mem m) Option.none
  | .vpexpandwReg256 e r => .evex e 2#2 true 1#2 1#2 false 0x62#8 (.reg r) Option.none
  | .vpexpandwMem512 e m => .evex e 2#2 true 2#2 1#2 false 0x62#8 (.mem m) Option.none
  | .vpexpandwReg512 e r => .evex e 2#2 true 2#2 1#2 false 0x62#8 (.reg r) Option.none
  | .vpshldw128 e rm imm => .evex e 3#2 true 0#2 1#2 false 0x70#8 rm (some imm)
  | .vpshldw256 e rm imm => .evex e 3#2 true 1#2 1#2 false 0x70#8 rm (some imm)
  | .vpshldw512 e rm imm => .evex e 3#2 true 2#2 1#2 false 0x70#8 rm (some imm)
  | .vpshldd128 e rm imm => .evex e 3#2 false 0#2 1#2 false 0x71#8 rm (some imm)
  | .vpshldd256 e rm imm => .evex e 3#2 false 1#2 1#2 false 0x71#8 rm (some imm)
  | .vpshldd512 e rm imm => .evex e 3#2 false 2#2 1#2 false 0x71#8 rm (some imm)
  | .vpshldq128 e rm imm => .evex e 3#2 true 0#2 1#2 false 0x71#8 rm (some imm)
  | .vpshldq256 e rm imm => .evex e 3#2 true 1#2 1#2 false 0x71#8 rm (some imm)
  | .vpshldq512 e rm imm => .evex e 3#2 true 2#2 1#2 false 0x71#8 rm (some imm)
  | .vpshldvw128 e rm => .evex e 2#2 true 0#2 1#2 false 0x70#8 rm Option.none
  | .vpshldvw256 e rm => .evex e 2#2 true 1#2 1#2 false 0x70#8 rm Option.none
  | .vpshldvw512 e rm => .evex e 2#2 true 2#2 1#2 false 0x70#8 rm Option.none
  | .vpshldvd128 e rm => .evex e 2#2 false 0#2 1#2 false 0x71#8 rm Option.none
  | .vpshldvd256 e rm => .evex e 2#2 false 1#2 1#2 false 0x71#8 rm Option.none
  | .vpshldvd512 e rm => .evex e 2#2 false 2#2 1#2 false 0x71#8 rm Option.none
  | .vpshldvq128 e rm => .evex e 2#2 true 0#2 1#2 false 0x71#8 rm Option.none
  | .vpshldvq256 e rm => .evex e 2#2 true 1#2 1#2 false 0x71#8 rm Option.none
  | .vpshldvq512 e rm => .evex e 2#2 true 2#2 1#2 false 0x71#8 rm Option.none
  | .vpshrdw128 e rm imm => .evex e 3#2 true 0#2 1#2 false 0x72#8 rm (some imm)
  | .vpshrdw256 e rm imm => .evex e 3#2 true 1#2 1#2 false 0x72#8 rm (some imm)
  | .vpshrdw512 e rm imm => .evex e 3#2 true 2#2 1#2 false 0x72#8 rm (some imm)
  | .vpshrdd128 e rm imm => .evex e 3#2 false 0#2 1#2 false 0x73#8 rm (some imm)
  | .vpshrdd256 e rm imm => .evex e 3#2 false 1#2 1#2 false 0x73#8 rm (some imm)
  | .vpshrdd512 e rm imm => .evex e 3#2 false 2#2 1#2 false 0x73#8 rm (some imm)
  | .vpshrdq128 e rm imm => .evex e 3#2 true 0#2 1#2 false 0x73#8 rm (some imm)
  | .vpshrdq256 e rm imm => .evex e 3#2 true 1#2 1#2 false 0x73#8 rm (some imm)
  | .vpshrdq512 e rm imm => .evex e 3#2 true 2#2 1#2 false 0x73#8 rm (some imm)
  | .vpshrdvw128 e rm => .evex e 2#2 true 0#2 1#2 false 0x72#8 rm Option.none
  | .vpshrdvw256 e rm => .evex e 2#2 true 1#2 1#2 false 0x72#8 rm Option.none
  | .vpshrdvw512 e rm => .evex e 2#2 true 2#2 1#2 false 0x72#8 rm Option.none
  | .vpshrdvd128 e rm => .evex e 2#2 false 0#2 1#2 false 0x73#8 rm Option.none
  | .vpshrdvd256 e rm => .evex e 2#2 false 1#2 1#2 false 0x73#8 rm Option.none
  | .vpshrdvd512 e rm => .evex e 2#2 false 2#2 1#2 false 0x73#8 rm Option.none
  | .vpshrdvq128 e rm => .evex e 2#2 true 0#2 1#2 false 0x73#8 rm Option.none
  | .vpshrdvq256 e rm => .evex e 2#2 true 1#2 1#2 false 0x73#8 rm Option.none
  | .vpshrdvq512 e rm => .evex e 2#2 true 2#2 1#2 false 0x73#8 rm Option.none
  | .vpdpbusd128 e rm => .evex e 2#2 false 0#2 1#2 false 0x50#8 rm Option.none
  | .vpdpbusd256 e rm => .evex e 2#2 false 1#2 1#2 false 0x50#8 rm Option.none
  | .vpdpbusd512 e rm => .evex e 2#2 false 2#2 1#2 false 0x50#8 rm Option.none
  | .vpdpbusds128 e rm => .evex e 2#2 false 0#2 1#2 false 0x51#8 rm Option.none
  | .vpdpbusds256 e rm => .evex e 2#2 false 1#2 1#2 false 0x51#8 rm Option.none
  | .vpdpbusds512 e rm => .evex e 2#2 false 2#2 1#2 false 0x51#8 rm Option.none
  | .vpdpwssd128 e rm => .evex e 2#2 false 0#2 1#2 false 0x52#8 rm Option.none
  | .vpdpwssd256 e rm => .evex e 2#2 false 1#2 1#2 false 0x52#8 rm Option.none
  | .vpdpwssd512 e rm => .evex e 2#2 false 2#2 1#2 false 0x52#8 rm Option.none
  | .vpdpwssds128 e rm => .evex e 2#2 false 0#2 1#2 false 0x53#8 rm Option.none
  | .vpdpwssds256 e rm => .evex e 2#2 false 1#2 1#2 false 0x53#8 rm Option.none
  | .vpdpwssds512 e rm => .evex e 2#2 false 2#2 1#2 false 0x53#8 rm Option.none
  | .vpopcntb128 e rm => .evex e 2#2 false 0#2 1#2 false 0x54#8 rm Option.none
  | .vpopcntb256 e rm => .evex e 2#2 false 1#2 1#2 false 0x54#8 rm Option.none
  | .vpopcntb512 e rm => .evex e 2#2 false 2#2 1#2 false 0x54#8 rm Option.none
  | .vpopcntw128 e rm => .evex e 2#2 true 0#2 1#2 false 0x54#8 rm Option.none
  | .vpopcntw256 e rm => .evex e 2#2 true 1#2 1#2 false 0x54#8 rm Option.none
  | .vpopcntw512 e rm => .evex e 2#2 true 2#2 1#2 false 0x54#8 rm Option.none
  | .vpopcntd128 e rm => .evex e 2#2 false 0#2 1#2 false 0x55#8 rm Option.none
  | .vpopcntd256 e rm => .evex e 2#2 false 1#2 1#2 false 0x55#8 rm Option.none
  | .vpopcntd512 e rm => .evex e 2#2 false 2#2 1#2 false 0x55#8 rm Option.none
  | .vpopcntq128 e rm => .evex e 2#2 true 0#2 1#2 false 0x55#8 rm Option.none
  | .vpopcntq256 e rm => .evex e 2#2 true 1#2 1#2 false 0x55#8 rm Option.none
  | .vpopcntq512 e rm => .evex e 2#2 true 2#2 1#2 false 0x55#8 rm Option.none
  | .vpshufbitqmb128 e rm => .evex e 2#2 false 0#2 1#2 false 0x8F#8 rm Option.none
  | .vpshufbitqmb256 e rm => .evex e 2#2 false 1#2 1#2 false 0x8F#8 rm Option.none
  | .vpshufbitqmb512 e rm => .evex e 2#2 false 2#2 1#2 false 0x8F#8 rm Option.none

/-- The encoder: the bytes of an instruction, in its row's encoding. -/
def encode (i : Instr) : List Byte := emit (view i)

end Sys2Proof
end

