-- ==== Sys2Proof/Machine/State.lean ====
section
/-! DEFINITION. The machine's state as plain data, the reasons a step can stop, and the state after reset.
10_state.md R30 to R92; the VMX layer of 50_ept_sub_page_permissions.md R500; the agents of 51 and 52. -/

namespace Sys2Proof.Machine

/-! ## System registers -/

/-- A segment register: selector, hidden base and limit, and for CS the attributes L and D (10_state.md R39). -/
structure SegReg where
  selector : BitVec 16
  base : Word64
  limit : Word32
  l : Bool
  d : Bool
  deriving DecidableEq, Repr, Inhabited

/-- Control registers, XCR0, IA32_EFER, the current privilege level and the segment registers (R38, R39, R43, R45, R46). -/
structure SysRegs where
  cr0 : Word64
  cr3 : Word64
  cr4 : Word64
  xcr0 : Word64
  efer : Word64
  cpl : BitVec 2
  es : SegReg
  cs : SegReg
  ss : SegReg
  ds : SegReg
  fs : SegReg
  gs : SegReg
  deriving DecidableEq, Repr, Inhabited

/-- The model-specific registers of R48 to R60, each under its own name. IA32_TME_ACTIVATE and IA32_TME_CAPABILITY are
held as the named fields of R58. The scope (core or package) of TEST_CTL, of IA32_UMWAIT_CONTROL and of IA32_TME_ACTIVATE
and IA32_TME_CAPABILITY is not given (53_split_lock_detection.md R590, R48; 70_reset_and_hazards.md R677): that each is a
register of this processor, which only its own software, RESET# and INIT# change, is a DESIGN CHOICE (assumption 47). -/
structure Msrs where
  umwaitControl : Word32
  testCtl : Word32
  hwFeedbackPtr : Word64
  hwFeedbackConfig : Word64
  packageThermStatus : Word64
  packageThermInterrupt : Word64
  biosSignId : Word64
  miscEnable : Word64
  xss : Word64
  platformDcaCap : Word64
  energyPerfBias : Word64
  tmeLock : Bool
  tmeEnable : Bool
  mkTmeKeyidBits : Nat
  mkTmeCryptoAlgs : BitVec 16
  mkTmeMaxKeys : Nat
  rtitCtl : Word64
  rtitOutputBase : Word64
  rtitOutputMaskPtrs : Word64
  rtitCr3Match : Word64
  vmxBasic : Word64
  vmxProcbasedCtls2 : Word64
  vmxExitCtls : Word64
  vmxTrueExitCtls : Word64
  vmxEntryCtls : Word64
  vmxTrueEntryCtls : Word64
  deriving DecidableEq, Repr, Inhabited

/-! ## VMX (50_ept_sub_page_permissions.md R500) -/

/-- `vmx_mode`. -/
inductive VmxMode | off | root | nonRoot
  deriving DecidableEq, Repr, Inhabited

/-- The basic exit reasons of 60_exceptions.md R607, by name; `ExitReason.number` gives their numbers. -/
inductive ExitReason
  | none
  | sppInduced
  | eptViolation
  | eptMisconfiguration
  | pconfig
  | vmfunc
  | pmlLogFull
  | apicAccess
  | invalidGuestState
  | smm
  | other
  deriving DecidableEq, Repr, Inhabited

/-- The number in bits 15:0 of the exit-reason field: 66, 59 and 33 are the spec's; those of 60_exceptions.md R607 marked
general knowledge are PRESUMED (assumption 31); an SMM exit and an exit of no named cause have none here. -/
def ExitReason.number : ExitReason → Option (BitVec 16)
  | .none => Option.none
  | .sppInduced => some 66#16
  | .eptViolation => some 48#16
  | .eptMisconfiguration => some 49#16
  | .pconfig => some 65#16
  | .vmfunc => some 59#16
  | .pmlLogFull => some 62#16
  | .apicAccess => some 44#16
  | .invalidGuestState => some 33#16
  | .smm => Option.none
  | .other => Option.none

/-- The VMCS as exactly the fields of 10_state.md R63 (controls whose bit position is not given are Booleans), with the
guest RIP that a VM exit saves (51_intel_pt_vmx.md R548). `entryFailure` is bit 31 of the exit-reason field
(51_intel_pt_vmx.md R556, D47), `exitReason` its bits 15:0. -/
structure Vmcs where
  primaryCtl : Word32
  secondaryCtl : Word32
  enableEpt : Bool
  virtualizeApic : Bool
  pconfigEnable : Bool
  pconfigExiting : Word64
  spptp : Word64
  exitCtl : Word32
  entryCtl : Word32
  guestRtitCtl : Word64
  guestRip : Word64
  exitReason : ExitReason
  entryFailure : Bool
  exitQualification : Word64
  guestLinearAddress : Word64
  guestPhysicalAddress : Word64
  vmInstructionError : Word32
  exitInstructionLength : Word32
  entryInterruptionInfo : Word32
  idtVectoringInfo : Word32
  guestPendingDebug : Word64
  deriving DecidableEq, Repr, Inhabited

/-- The page size of an EPT leaf (R500). -/
inductive PageSize | k4 | m2 | g1
  deriving DecidableEq, Repr, Inhabited

/-- One mapping of `ept_translate` (R500), given by the host: the guest-physical and physical base of a page, its size,
whether the walk finds a misconfiguration, the read and execute permissions, the accumulated write-access bit and bit 61
of the leaf. A guest-physical address no entry covers is an EPT violation. -/
structure EptEntry where
  gpaBase : Nat
  paBase : Nat
  size : PageSize
  misconfigured : Bool
  read : Bool
  execute : Bool
  accW : Bool
  spp : Bool
  deriving DecidableEq, Repr, Inhabited

/-- A sub-page-permission entry read in the past: level 4 to 1, SPPTP and bits 47:12 of the guest-physical address of the
lookup that read it, its value (R69, R517). -/
structure SppCached where
  level : Nat
  spptp : Word64
  page : BitVec 36
  value : Word64
  deriving DecidableEq, Repr, Inhabited

/-- VMX state of the logical processor. `apicAccessPage` is the APIC-access page (R516). `handedOver`: the model's own, a
VM exit has handed control to the host (R500). `justEntered`: a VM entry has completed and no guest instruction has run
since (51_intel_pt_vmx.md R550, R552). `enclaveMode` is `in_enclave_mode` (D30). -/
structure Vmx where
  mode : VmxMode
  vmcs : Vmcs
  ept : List EptEntry
  apicAccessPage : Option Nat
  sppCache : List SppCached
  handedOver : Bool
  justEntered : Bool
  enclaveMode : Bool
  deriving DecidableEq, Repr, Inhabited

/-! ## Other units -/

/-- How the memory of a KeyID is encrypted (10_state.md R66). -/
inductive EncryptionMode | encryptWithTmeKey | encryptWithKeyidKey | noEncryption
  deriving DecidableEq, Repr, Inhabited

/-- What the MKTME key table holds for one KeyID (R66). -/
structure KeySlot where
  dataKey : BitVec 128
  tweakKey : BitVec 128
  mode : EncryptionMode
  deriving DecidableEq, Repr, Inhabited

/-- KEY_TABLE_LOCK (R67): unlocked, or held exclusively by another logical processor. -/
inductive KeyLock | unlocked | exclusive
  deriving DecidableEq, Repr, Inhabited

/-- One page of the linear address space as the host's translation function sees it (20_memory.md R110): a 4-KByte
linear page number, the physical base, permissions and the accessed and dirty flags. -/
structure PageEntry where
  page : Nat
  paBase : Nat
  writable : Bool
  user : Bool
  executable : Bool
  accessed : Bool
  dirty : Bool
  deriving DecidableEq, Repr, Inhabited

/-- Hardware feedback interface: the interrupt event (52 R578), a disabling that is not acknowledged yet (R576), the
structures (base addresses) to which an update begun before a disabling or a change of the pointer may still go (R576,
R580, assumption 27), and the timestamp of the last update (R580). -/
structure Hfi where
  interruptPending : Bool
  disabling : Bool
  inFlight : List Nat
  lastTimestamp : Word64
  deriving DecidableEq, Repr, Inhabited

/-- An Intel PT output block whose translation is cached: its physical address and its length in bytes (51 R553). -/
structure PtBlock where
  pa : Nat
  len : Nat
  deriving DecidableEq, Repr, Inhabited

/-- The cached current and next Intel PT output block (10_state.md R70). The model's own: `started`, the first lookups are
done and tracing has commenced; `stopRest`, once a lookup met a ToPA entry with the STOP bit, the address and the length of
what of its region is not looked up yet (51 R553). -/
structure PtBlocks where
  current : Option PtBlock
  next : Option PtBlock
  started : Bool
  stopRest : Option (Nat × Nat)
  deriving DecidableEq, Repr, Inhabited

/-- No block is cached. -/
def PtBlocks.empty : PtBlocks := { current := none, next := none, started := false, stopRest := none }

/-- What loads IA32_RTIT_CTL beside WRMSR and a VM entry's guest-state area: the MSR-load area of a VM transition, XRSTORS,
RSM (51 R553). -/
inductive RtitLoad
  | msrLoadArea | xrstors | rsm
  deriving DecidableEq, Repr

/-- The registers WRMSR can reach in the model, by name (R47 to R60). -/
inductive MsrName
  | umwaitControl | testCtl | hwFeedbackPtr | hwFeedbackConfig | packageThermStatus | packageThermInterrupt
  | biosSignId | miscEnable | xss | platformDcaCap | energyPerfBias | rtitCtl | rtitOutputBase | rtitOutputMaskPtrs
  | rtitCr3Match
  deriving DecidableEq, Repr

/-- The address of a register: the source's own (10_state.md R49 to R51, R57), a parameter of the configuration (R48, R52,
R53, R59), or none where neither gives it (R54 to R56, R59). -/
def MsrName.address (c : Cfg) : MsrName → Option Word32
  | .umwaitControl => some c.msrAddresses.umwaitControl
  | .testCtl => some 0x33#32
  | .hwFeedbackPtr => some 0x17D0#32
  | .hwFeedbackConfig => some 0x17D1#32
  | .packageThermStatus => some c.msrAddresses.pkgThermStatus
  | .packageThermInterrupt => some c.msrAddresses.pkgThermInterrupt
  | .biosSignId => Option.none
  | .miscEnable => Option.none
  | .xss => Option.none
  | .platformDcaCap => some 0x1F8#32
  | .energyPerfBias => some 0x1B0#32
  | .rtitCtl => some c.msrAddresses.rtitCtl
  | .rtitOutputBase => Option.none
  | .rtitOutputMaskPtrs => Option.none
  | .rtitCr3Match => Option.none

/-- One row of a hardware feedback update: row index, new performance and energy-efficiency capability (52 R580). -/
structure HfiRow where
  row : Nat
  perf : Option Byte
  energy : Option Byte
  deriving DecidableEq, Repr

/-- What the world outside the instruction stream does, between two instructions but for `storeMeanwhile`: other
processors, devices, the hardware feedback and Intel PT agents, and the host software whose instructions are outside the
spec (00_scope.md R6). -/
inductive Input
  /-- No event: one instruction runs before the next input. -/
  | instruction
  /-- A store by another logical processor or a device at a physical address (45 R383). -/
  | storeByAgent (pa : Nat) (bytes : List Byte)
  /-- Such a store while the next instruction runs, which runs in this step: each byte lands before or after the
  instruction's accesses, so that a load can see part of the store and a store can be overwritten in part (20_memory.md
  R108, D9). -/
  | storeMeanwhile (pa : Nat) (bytes : List Byte)
  /-- The hardware feedback agent updates its structure, or one that an update in progress may go to: `target` picks
  among them (52 R580). -/
  | hfiUpdate (target : Nat) (rows : List HfiRow) (timestamp : Word64) (clearPerf clearEnergy : Bool)
  /-- Hardware acknowledges the disabling of the interface (52 R576). -/
  | hfiAcknowledge
  /-- GETSEC[SENTER] on some socket clears the enable bit (10 R51). -/
  | senter
  /-- WRMSR by an operating system (R47). -/
  | wrmsr (m : MsrName) (v : Word64)
  /-- BIOS or the host sets the fields of IA32_TME_ACTIVATE and IA32_TME_CAPABILITY (R58). -/
  | setTme (lock enable : Bool) (keyidBits : Nat) (algs : BitVec 16) (maxKeys : Nat)
  /-- RESET# (R91). -/
  | reset
  /-- INIT# (R91). -/
  | init
  /-- The host sets system registers: mode, CPL, control registers, XCR0, segments (92_eei_decisions.md D3). -/
  | setSys (v : SysRegs)
  /-- The host sets the translation of linear addresses (20 R110). -/
  | setPaging (p : Option (List PageEntry))
  /-- The VMM in VMX root operation sets VMX state: mode, VMCS, EPT, APIC-access page (50 R500). -/
  | setVmx (mode : VmxMode) (vmcs : Vmcs) (ept : List EptEntry) (apic : Option Nat)
  /-- VMLAUNCH or VMRESUME, an instruction of `len` bytes at RIP (50 R500, R520; 51 R543, R556). -/
  | vmEntry (len : Nat)
  /-- The host's code after a VM exit runs on from this address (50 R500). -/
  | hostResumes (rip : Word64)
  /-- INVEPT in the VMM (50 R517). -/
  | invept
  /-- VMFUNC with EAX = 0 in the guest, an instruction of `len` bytes (51 R551), switching to this EPT. -/
  | vmfunc0 (len : Nat) (ept : List EptEntry)
  /-- Intel PT writes trace bytes at an output address (51 R540, R547). -/
  | ptOutput (addr : Nat) (bytes : List Byte)
  /-- Intel PT reads `len` bytes of a ToPA table (51 R540, R547). -/
  | ptRead (addr len : Nat)
  /-- Intel PT looks up an output block: the output buffer segment goes on for `len` bytes from `addr`, and `stop` is the
  STOP bit of its ToPA entry. Within an entry with that bit the next block of the same region is looked up instead (51
  R553). -/
  | ptLookup (addr len : Nat) (stop : Bool)
  /-- Intel PT has filled its current output block and goes on in the next one (51 R553). -/
  | ptAdvance
  /-- Another enable flow of Intel PT loads IA32_RTIT_CTL (51 R553). -/
  | loadRtit (via : RtitLoad) (v : Word64)
  /-- Intel PT output fills the page-modification log (51 R547, R548). -/
  | ptPmlFull
  /-- An SMM VM exit (51 R557). -/
  | smmExit
  /-- The logical processor enters or leaves an enclave: the host-supplied `in_enclave_mode` (50 R515, D30). -/
  | setEnclaveMode (on : Bool)
  /-- A locked access of an instruction outside the spec at `seg:off`, which stores these bytes (53 R591). -/
  | lockedAccess (seg : Seg) (off : Word64) (bytes : List Byte)
  /-- Another logical processor's PCONFIG programs an entry of the shared key table (10 R66; 44 R367, R368). -/
  | keyProgram (id : Nat) (k : KeySlot)
  /-- Another logical processor takes or releases KEY_TABLE_LOCK (10 R67). -/
  | keyLock (l : KeyLock)
  deriving DecidableEq, Repr

/-! ## The state -/

/-- The machine: one logical processor, the units it shares, and the inputs not yet taken. -/
structure State where
  /-- Configuration (00_scope.md R7, R8); no step changes it. -/
  cfg : Cfg
  /-- RAX, RCX, RDX, RBX, RSP, RBP, RSI, RDI, R8 to R15 (10_state.md R31). -/
  gpr : Vector Word64 16
  /-- RIP (R34, R35). -/
  rip : Word64
  /-- The model's own: the address of the next instruction while one executes (R35). -/
  nextRip : Word64
  /-- RFLAGS (R36). -/
  rflags : Word64
  sys : SysRegs
  /-- ZMM0 to ZMM31; YMM and XMM are their low parts (R40). -/
  zmm : Vector Vec 32
  /-- k0 to k7 (R42). -/
  k : Vector Word64 8
  msr : Msrs
  /-- The time-stamp counter (R62). -/
  tsc : Word64
  vmx : Vmx
  /-- The monitored physical block when armed: its first address (R65, D38). -/
  monitor : Option Nat
  /-- The MKTME key table by KeyID, rising, without the entries that are as on activation (R66). -/
  keyTable : List (Nat × KeySlot)
  keyTableLock : KeyLock
  hfi : Hfi
  pt : PtBlocks
  /-- Linear translation: none is the identity (20_memory.md R110). -/
  paging : Option (List PageEntry)
  /-- Physical memory, in canonical form (20_memory.md R100, R101). -/
  mem : List Host.Cell
  /-- The bytes overwritten since the last serializing event, with what they held (20_memory.md R126). -/
  stale : List Host.Cell
  /-- The model's own: inputs from outside, oldest first. -/
  inputs : List Input
  /-- The model's own: how many free values have been drawn. -/
  draws : Nat
  deriving DecidableEq, Repr

/-! ## Why a step can stop -/

/-- The exceptions of 60_exceptions.md R601 that a rule raises. -/
inductive Exc | ud | nm | ss | gp | pf | ac
  deriving DecidableEq, Repr

/-- Faults. -/
inductive Fault
  /-- An exception is raised: 60_exceptions.md R600 and R603 (D8) make this outcome terminal, the state being the one
  before the instruction; the error code is absent where the spec gives none (R601, R602), and #PF carries the linear
  address. Raised by every meaning, by fetch and by decoding. Safe: nothing is claimed of a handler. -/
  | exception (e : Exc) (code : Option (BitVec 32)) (addr : Option Word64)
  /-- A step is asked of a machine whose VM exit has handed control to the host (50 R500, D8); raised by `step` only.
  Safe: the host's code is outside the spec. -/
  | handedToHost
  deriving DecidableEq, Repr

/-- Refusals. -/
inductive Refusal
  /-- The instruction has no meaning in the model yet; raised by `exec`'s own arms only. Safe. -/
  | notModelled (mnemonic : String)
  /-- The bytes are outside the spec (30_encoding.md R196, D4); raised by `step` after decoding. Safe. -/
  | outsideSpec (why : NoMatch)
  /-- WBNOINVD where CPUID does not report it: "What F3 0F 09 does when the CPUID bit is 0 is not stated ... the model
  refuses it" (42_cldemote_movdir_wbnoinvd.md R330); raised by WBNOINVD only. Safe. -/
  | wbnoinvdAbsent
  /-- VM entry or INVEPT outside VMX root operation, VMFUNC or an SMM exit outside a guest: base VMX, which the spec does
  not define (50 R500); raised by those inputs only. Safe. -/
  | outsideVmxLayer
  deriving DecidableEq, Repr

/-! ## Reset (10_state.md R90 to R92, 70_reset_and_hazards.md R670) -/

/-- Clears one bit. -/
def clearBit (v : Word64) (n : Nat) : Word64 := v &&& ~~~(1#64 <<< n)

/-- What reset leaves whatever the unstated components `u` are: the values R90 and R670 state, and no feedback update in
progress, which is the model's choice (assumption 36). Whether a disabling then waits for its acknowledgement R90, R576
and R670 do not say: `hfi.disabling` stays as `u` has it (assumptions 27, 36). -/
def State.powerUp (u : State) : State :=
  { u with
    msr := { u.msr with hwFeedbackPtr := 0#64, hwFeedbackConfig := 0#64, miscEnable := clearBit u.msr.miscEnable 22 }
    monitor := none
    keyTable := []
    keyTableLock := .unlocked
    hfi := { u.hfi with interruptPending := false, inFlight := [] } }

/-- Features of the base state: all present (95_test_vectors.md, "base state"). -/
def Features.all : Features :=
  { sse := true, avx := true, avx512f := true, avx512vl := true, avx512bw := true, vbmi2 := true, gfni := true
    vaes := true, vpclmulqdq := true, vnni := true, bitalg := true, vpopcntdq := true, waitpkg := true
    cldemote := true, movdiri := true, movdir64b := true, pconfig := true, wbnoinvd := true, hfi := true
    splitLock := true, spp := true, ptVmx := true }

/-- One row of the CPUID table. -/
def cpuidRow (leaf subleaf eax ebx ecx edx : Nat) : CpuidEntry :=
  { leaf := BitVec.ofNat 32 leaf, subleaf := BitVec.ofNat 32 subleaf, eax := BitVec.ofNat 32 eax
    ebx := BitVec.ofNat 32 ebx, ecx := BitVec.ofNat 32 ecx, edx := BitVec.ofNat 32 edx }

/-- The CPUID table of the base configuration: what 41_cpuid_leaves.md demands of any table that can run EVEX code in
64-bit mode (R254 XSAVE, R256 AL = 1, R277 XCR0 bits, R299 Intel 64), and Intel PT with its MSRs (leaf 07H EBX[25], leaf
14H EBX[0] and ECX[0]), which the Chapter 4 features presuppose; the rest 0 (DESIGN CHOICE, assumption 2). -/
def cpuidBase : List CpuidEntry :=
  [cpuidRow 0x01 0 0 0 0x04000020 0, cpuidRow 0x02 0 1 0 0 0, cpuidRow 0x06 0 0 0 0 3,
    cpuidRow 0x07 0 0 0x02000000 0 0, cpuidRow 0x0D 0 0xE7 0 0 0, cpuidRow 0x14 0 0 1 1 0,
    cpuidRow 0x80000001 0 0 0 0 0x20000000]

/-- The conventional addresses (93_implementation_defined.md GK10; PRESUMED, assumption 44). -/
def MsrAddresses.conventional : MsrAddresses :=
  { umwaitControl := 0xE1#32, tmeActivate := 0x982#32, tmeCapability := 0x981#32, pkgThermStatus := 0x1B1#32
    pkgThermInterrupt := 0x1B2#32, rtitCtl := 0x570#32 }

/-- A configuration with every feature (DESIGN CHOICE, assumption 2). -/
def Cfg.base : Cfg :=
  { features := Features.all, cpuid := cpuidBase, highestBasicLeaf := 0x1B#32, highestExtLeaf := 0x80000008#32
    microcodeRevision := 0#32, physAddrBits := 52, virtAddrBits := 48, clflushLineBytes := 64, monitorLine := 64
    monitorMin := 64, monitorMax := 64, mktmeTarget := true, sppVapicTogether := false, spptpLowChecked := false
    logicalProcessors := 1, hfiPageCount := 1, hfiRowIndex := 0, enclaveRanges := [], epcmDenials := []
    msrAddresses := MsrAddresses.conventional }

/-- A flat segment register of the base state: "all segment bases 0". -/
def SegReg.flat (l : Bool) : SegReg := { selector := 8#16, base := 0#64, limit := 0xFFFFFFFF#32, l := l, d := false }

/-- System registers of the base state: 64-bit mode, CR0.PE and PG, CR4.PAE, OSFXSR and OSXSAVE, XCR0 = E7H, IA32_EFER
LME and LMA (95_test_vectors.md; DESIGN CHOICE, assumption 1, with CPL 0). -/
def SysRegs.base : SysRegs :=
  { cr0 := 0x80000001#64, cr3 := 0#64, cr4 := 0x40220#64, xcr0 := 0xE7#64, efer := 0x500#64, cpl := 0#2
    es := SegReg.flat false, cs := SegReg.flat true, ss := SegReg.flat false, ds := SegReg.flat false
    fs := SegReg.flat false, gs := SegReg.flat false }

/-- MSRs: capability bits of the controls of Chapters 3 and 4 set, everything else zero (assumptions 1 and 2). -/
def Msrs.base : Msrs :=
  { umwaitControl := 0#32, testCtl := 0#32, hwFeedbackPtr := 0#64, hwFeedbackConfig := 0#64
    packageThermStatus := 0#64, packageThermInterrupt := 0#64, biosSignId := 0#64, miscEnable := 0#64, xss := 0#64
    platformDcaCap := 0#64, energyPerfBias := 0#64, tmeLock := false, tmeEnable := false, mkTmeKeyidBits := 0
    mkTmeCryptoAlgs := 0#16, mkTmeMaxKeys := 0, rtitCtl := 0#64, rtitOutputBase := 0#64, rtitOutputMaskPtrs := 0#64
    rtitCr3Match := 0#64, vmxBasic := 0#64, vmxProcbasedCtls2 := 0x0180000000000000#64
    vmxExitCtls := 0x0200000000000000#64, vmxTrueExitCtls := 0x0200000000000000#64
    vmxEntryCtls := 0x0004000000000000#64, vmxTrueEntryCtls := 0x0004000000000000#64 }

/-- A VMCS of zeros. -/
def Vmcs.zero : Vmcs :=
  { primaryCtl := 0#32, secondaryCtl := 0#32, enableEpt := false, virtualizeApic := false, pconfigEnable := false
    pconfigExiting := 0#64, spptp := 0#64, exitCtl := 0#32, entryCtl := 0#32, guestRtitCtl := 0#64, guestRip := 0#64
    exitReason := .none, entryFailure := false, exitQualification := 0#64, guestLinearAddress := 0#64
    guestPhysicalAddress := 0#64, vmInstructionError := 0#32, exitInstructionLength := 0#32, entryInterruptionInfo := 0#32
    idtVectoringInfo := 0#32, guestPendingDebug := 0#64 }

/-- Not in VMX operation. -/
def Vmx.off : Vmx :=
  { mode := .off, vmcs := Vmcs.zero, ept := [], apicAccessPage := none, sppCache := [], handedOver := false
    justEntered := false, enclaveMode := false }

/-- The values the model names for every component the spec leaves unspecified at reset (assumption 1, DESIGN CHOICE). -/
def State.unstated : State :=
  { cfg := Cfg.base, gpr := Vector.replicate 16 0#64, rip := 0#64, nextRip := 0#64, rflags := 2#64
    sys := SysRegs.base, zmm := Vector.replicate 32 0#512, k := Vector.replicate 8 0#64, msr := Msrs.base
    tsc := 0#64, vmx := Vmx.off, monitor := none, keyTable := [], keyTableLock := .unlocked
    hfi := { interruptPending := false, disabling := false, inFlight := [], lastTimestamp := 0#64 }
    pt := PtBlocks.empty, paging := none, mem := [], stale := [], inputs := [], draws := 0 }

/-- The machine right after reset. -/
def State.reset : State := State.powerUp State.unstated

/-- The components after RESET# or INIT# whose values the spec leaves unspecified: a free value (R92, R671). -/
structure Unspecified where
  gpr : Vector Word64 16
  rip : Word64
  rflags : Word64
  sys : SysRegs
  zmm : Vector Vec 32
  k : Vector Word64 8
  msr : Msrs
  tsc : Word64
  vmx : Vmx
  paging : Option (List PageEntry)
  mem : List Host.Cell
  monitor : Option Nat
  keyTable : List (Nat × KeySlot)
  keyTableLock : KeyLock
  hfi : Hfi
  deriving DecidableEq, Repr, Inhabited

/-- `any(...)` for those components, drawn like the other free values. -/
opaque Config.unspecified : Nat → Unspecified

end Sys2Proof.Machine
end

