-- ==== Sys2Proof/Machine/Ops.lean ====
section
/-! DEFINITION. The named operations over the state: registers, physical memory, free values, raising an exception,
leaving the guest. 10_state.md R31 to R42; 20_memory.md R100, R126; 60_exceptions.md R600 to R604; 50 R500. -/

namespace Sys2Proof.Machine

/-! ## Stopping -/

/-- Why a meaning does not complete: a fault, a refusal, or a VM exit, which leaves a next state. -/
inductive Stop
  | fault (f : Fault)
  | refused (r : Refusal)
  | exit (s : State)
  deriving DecidableEq, Repr

/-- The outcome of a meaning. A VM exit is a next state: the exit fields written, VMX root operation (50 R500). -/
def finish : Except Stop State → Host.Outcome State Fault Refusal
  | .ok s => .next s
  | .error (.fault f) => .fault f
  | .error (.refused r) => .refused r
  | .error (.exit s) => .next s

/-! ## Modes (10_state.md R38) -/

/-- The operating modes. -/
inductive Mode | real | v86 | prot | compat | long
  deriving DecidableEq, Repr

/-- A bit of a 64-bit register. -/
def bit (v : Word64) (n : Nat) : Bool := v.getLsbD n

/-- The operating mode: CR0.PE, EFLAGS.VM, IA32_EFER.LMA, CS.L (R38). -/
def State.mode (s : State) : Mode :=
  if !bit s.sys.cr0 0 then .real
  else if bit s.rflags 17 then .v86
  else if !bit s.sys.efer 10 then .prot
  else if s.sys.cs.l then .long else .compat

/-- 64-bit mode: "IA32_EFER.LMA = 1 && CS.L = 1" (R38, R46). -/
def State.is64 (s : State) : Bool := decide (s.mode = .long)

/-- The current privilege level: 0 in real-address mode, 3 in virtual-8086 mode, else as held (R38). -/
def State.cpl (s : State) : Nat :=
  match s.mode with
  | .real => 0
  | .v86 => 3
  | _ => s.sys.cpl.toNat

/-- What decoding needs of the mode. -/
def State.decodeMode (s : State) : DecodeMode := { is64 := s.is64, csD := s.sys.cs.d }

/-! ## Registers -/

/-- `GPR64[r]` (R31). -/
def State.gpr64 (s : State) (r : GReg) : Word64 := s.gpr[r.toNat]'r.isLt
/-- `GPR32[r]`. -/
def State.gpr32 (s : State) (r : GReg) : Word32 := (s.gpr64 r).setWidth 32
/-- A general register at an address size, zero-extended (R326). -/
def State.gprAddr (s : State) (a : AddrSize) (r : GReg) : Word64 :=
  match a with
  | .a64 => s.gpr64 r
  | .a32 => ((s.gpr64 r).setWidth 32).setWidth 64
  | .a16 => ((s.gpr64 r).setWidth 16).setWidth 64
/-- A write of all 64 bits of a general register. -/
def State.setGpr64 (s : State) (r : GReg) (v : Word64) : State := { s with gpr := s.gpr.set r.toNat v r.isLt }
/-- A write of a 32-bit result: zero-extended in 64-bit mode (R31); elsewhere bits 63:32 are out of reach and kept
(DEDUCED, assumption 12). -/
def State.setGpr32 (s : State) (r : GReg) (v : Word32) : State :=
  if s.is64 then s.setGpr64 r (v.setWidth 64) else s.setGpr64 r ((s.gpr64 r).extractLsb' 32 32 ++ v)

/-- RAX, RCX, RDX, RBX as register numbers (R31). -/
def rax : GReg := 0#4
/-- RCX. -/
def rcx : GReg := 1#4
/-- RDX. -/
def rdx : GReg := 2#4
/-- RBX. -/
def rbx : GReg := 3#4

/-- `MAXVL`: 512 with AVX512F, 256 with AVX, else 128 (00_scope.md R8, D5). -/
def maxVl (c : Cfg) : Nat := if c.features.avx512f then 512 else if c.features.avx then 256 else 128
/-- The bits of a vector register that the processor has. -/
def vecCut (c : Cfg) (v : Vec) : Vec := v &&& (BitVec.allOnes 512 >>> (512 - maxVl c))
/-- `ZMM[i]` (R40), of which only bits below `MAXVL` exist (00_scope.md R8). -/
def State.vec (s : State) (r : VReg) : Vec := vecCut s.cfg (s.zmm[r.toNat]'r.isLt)
/-- A write of a whole vector register. -/
def State.setVec (s : State) (r : VReg) (v : Vec) : State := { s with zmm := s.zmm.set r.toNat v r.isLt }
/-- `k[i]` (R42). -/
def State.opmask (s : State) (r : KReg) : Word64 := s.k[r.toNat]'r.isLt
/-- A write of an opmask register. -/
def State.setOpmask (s : State) (r : KReg) (v : Word64) : State := { s with k := s.k.set r.toNat v r.isLt }
/-- A write of RFLAGS. -/
def State.setRflags (s : State) (v : Word64) : State := { s with rflags := v }

/-- The segment register of a name. -/
def State.segment (s : State) : Seg → SegReg
  | .es => s.sys.es | .cs => s.sys.cs | .ss => s.sys.ss | .ds => s.sys.ds | .fs => s.sys.fs | .gs => s.sys.gs

/-- A completed instruction: `RIP <- RIP + len` (R34). -/
def State.complete (s : State) : State := { s with rip := s.nextRip }

/-- Serialization: every earlier store is seen by later fetches (20_memory.md R126). -/
def State.serialize (s : State) : State := { s with stale := [] }

/-! ## Free values (00_scope.md R14, `any`) -/

/-- The state after one more draw. -/
def State.drawn (s : State) : State := { s with draws := s.draws + 1 }
/-- `any(Bool)`. -/
def State.anyBool (s : State) : Bool := Config.drawBool s.draws
/-- `any(Nat)`. -/
def State.anyNat (s : State) : Nat := Config.drawNat s.draws
/-- `any(bits 64)`. -/
def State.any64 (s : State) : Word64 := Config.draw64 s.draws

/-- The TSC advanced by an unspecified amount, never decreasing (R62, D10). -/
def tscAdvance (tsc : Word64) (d : Nat) : Word64 := BitVec.ofNat 64 (min (tsc.toNat + d) (2 ^ 64 - 1))

/-! ## Physical memory (20_memory.md R100, R101) -/

/-- What an address reads as that the list does not hold (DESIGN CHOICE, assumption 3). -/
def unlistedByte : Byte := 0#8

/-- One byte of physical memory. -/
def memByte : List Host.Cell → Nat → Byte
  | [], _ => unlistedByte
  | (k, b) :: m, a => if a = k then b else memByte m a

/-- Memory without the entries of an address. -/
def memErase (m : List Host.Cell) (a : Nat) : List Host.Cell := m.filter fun c => c.1 != a

/-- An entry put at its place in a rising list. -/
def memInsert : List Host.Cell → Nat → Byte → List Host.Cell
  | [], a, b => [(a, b)]
  | (k, c) :: m, a, b => if a < k then (a, b) :: (k, c) :: m else (k, c) :: memInsert m a b

/-- A write of one byte; writing what an unlisted address reads as removes the entry. -/
def memSet (m : List Host.Cell) (a : Nat) (b : Byte) : List Host.Cell :=
  if b = unlistedByte then memErase m a else memInsert (memErase m a) a b

/-- Writes of bytes at the addresses of a list, in order. -/
def memSetMany (m : List Host.Cell) : List (Nat × Byte) → List Host.Cell
  | [] => m
  | (a, b) :: rest => memSetMany (memSet m a b) rest

/-- The canonical form: addresses strictly rising, no entry equal to what an unlisted address reads as. -/
abbrev Memory.wf (m : List Host.Cell) : Prop :=
  m.Pairwise (fun x y => x.1 < y.1) ∧ ∀ c ∈ m, c.2 ≠ unlistedByte

/-- A physical read of one byte (`PhysRead`). -/
def State.byte (s : State) (pa : Nat) : Byte := memByte s.mem pa
/-- A physical read of 8 bytes, little-endian. -/
def State.phys64 (s : State) (pa : Nat) : Word64 :=
  BitVec.ofNat 64 (bytesValue ((List.range 8).map fun i => s.byte (pa + i)))

/-- The size of the monitored block: `MONITOR_LINE`, held between `MONITOR_MIN` and `MONITOR_MAX` as CPUID leaf 05H
reports them (41_cpuid_leaves.md R263, D38). No rule excludes a size of 0: an armed monitor then watches an empty block,
which no store hits (DESIGN CHOICE, assumption 37). -/
def monitorSize (c : Cfg) : Nat := max (c.monitorMin % 0x10000) (min c.monitorLine (c.monitorMax % 0x10000))

/-- A physical address has `MAXPHYADDR` bits (20_memory.md R101). -/
def State.physical (s : State) (a : Nat) : Nat := a % 2 ^ s.cfg.maxPhyAddr

/-- The cells that lie in the physical address space (20_memory.md R101). -/
def cellsInside (c : Cfg) (cells : List (Nat × Byte)) : List (Nat × Byte) :=
  cells.filter fun x => decide (x.1 < 2 ^ c.maxPhyAddr)

/-- Does a store to these addresses touch the monitored block (45_waitpkg.md R383)? -/
def State.monitorHit (s : State) (pas : List Nat) : Bool :=
  match s.monitor with
  | none => false
  | some b => pas.any fun a => decide (b ≤ a) && decide (a < b + monitorSize s.cfg)

/-- The bytes of a store land in memory; what they overwrote is kept for fetches before serialization (R126). -/
def State.putBytes (s : State) (cells : List (Nat × Byte)) : State :=
  { s with mem := memSetMany s.mem cells, stale := (cells.map fun c => (c.1, s.byte c.1)) ++ s.stale }

/-- A store by another agent: it triggers the monitor (45_waitpkg.md R383). An address of more than `MAXPHYADDR` bits
does not exist, and no byte of the store lands there (20_memory.md R101). -/
def State.storeByAgent (s : State) (cells : List (Nat × Byte)) : State :=
  let inside := cellsInside s.cfg cells
  let t := s.putBytes inside
  if s.monitorHit (inside.map (·.1)) then { t with monitor := none } else t

/-- A store by this logical processor: whether it triggers its own monitor is `any(Bool)` (R383, D38). -/
def State.storeOwn (s : State) (cells : List (Nat × Byte)) : State :=
  let t := s.putBytes cells
  if s.monitorHit (cells.map (·.1)) then { t with monitor := if s.anyBool then none else s.monitor, draws := s.draws + 1 }
  else t

/-! ## Raising an exception (60_exceptions.md R600 to R603): the one shared operation -/

/-- The error code of an exception: none for #UD and #NM; 0 for #SS, #GP and #AC, but no code at all in real-address mode
(R601). #PF carries a code of its own (`raisePF`, R602). -/
def errorCode (s : State) (e : Exc) : Option (BitVec 32) :=
  match e with
  | .ud => none
  | .nm => none
  | .ac => if s.mode = .real then none else some 0#32
  | .pf => if s.mode = .real then none else some 0#32
  | .gp => if s.mode = .real then none else some 0#32
  | .ss => if s.mode = .real then none else some 0#32

/-- `raise #XX(e)`: the instruction ends as a fault. No architectural state is written, the saved RIP is that of the
instruction's first byte (the state before the step, which the outcome leaves as it was); delivery to a handler is the
host's (R600, R603, D8). Return from a handler (R604) is outside the spec. -/
def raise (s : State) (e : Exc) : Stop := .fault (.exception e (errorCode s e) none)

/-- `raise #PF(fault-code)` with the linear address it concerns (R602). -/
def raisePF (code : BitVec 32) (la : Word64) : Stop := .fault (.exception .pf (some code) (some la))

/-- The check of a condition that raises an exception. -/
def check (s : State) (ok : Bool) (e : Exc) : Except Stop Unit := if ok then .ok () else .error (raise s e)

/-! ## Leaving the guest (50 R500, 51 R541, R542) -/

/-- Is a secondary processor-based control effectively 1 (50 R501)? -/
def Vmcs.secondary (v : Vmcs) (n : Nat) : Bool := v.primaryCtl.getLsbD 31 && v.secondaryCtl.getLsbD n

/-- Does the processor support the control "sub-page write permission" (50 R521)? -/
def State.sppSupported (s : State) : Bool := s.cfg.features.spp && bit s.msr.vmxProcbasedCtls2 55
/-- Does it support "Guest PT uses Guest Physical Addresses" (51 R544)? -/
def State.guestPtSupported (s : State) : Bool := s.cfg.features.ptVmx && bit s.msr.vmxProcbasedCtls2 56
/-- Does it support "Clear IA32_RTIT_CTL on exit", reported in both capability MSRs (51 R544)? -/
def State.exitClearSupported (s : State) : Bool :=
  s.cfg.features.ptVmx && bit s.msr.vmxExitCtls 57 && bit s.msr.vmxTrueExitCtls 57
/-- Does it support "Load IA32_RTIT_CTL on entry", reported in both capability MSRs (51 R544)? -/
def State.entryLoadSupported (s : State) : Bool :=
  s.cfg.features.ptVmx && bit s.msr.vmxEntryCtls 50 && bit s.msr.vmxTrueEntryCtls 50

/-- `G`: the effective "Guest PT uses Guest Physical Addresses" (51 R545, R556). -/
def State.guestPt (s : State) : Bool := s.guestPtSupported && s.vmx.vmcs.secondary 24
/-- "Clear IA32_RTIT_CTL on exit", exit control 25 (51 R542). -/
def State.clearsRtit (s : State) : Bool := s.exitClearSupported && s.vmx.vmcs.exitCtl.getLsbD 25
/-- "Load IA32_RTIT_CTL on entry", entry control 18 (51 R543). -/
def State.loadsRtit (s : State) : Bool := s.entryLoadSupported && s.vmx.vmcs.entryCtl.getLsbD 18

/-- Does the guest IA32_RTIT_CTL field exist: one of the two controls of Table 4-1 is supported (51 R544, D47)? -/
def State.rtitFieldExists (s : State) : Bool := s.exitClearSupported || s.entryLoadSupported

/-- The exit-reason field as a number: bit 31 for a VM-entry failure, the basic reason in bits 15:0; none where the spec
gives the reason no number (60_exceptions.md R607; 51 R556, D47). -/
def Vmcs.exitReasonField (v : Vmcs) : Option Word32 :=
  v.exitReason.number.map fun n => BitVec.ofBool v.entryFailure ++ (0#15 ++ n)

/-- `VMexit(reason, qual)`: the exit fields, the guest RIP and IA32_RTIT_CTL are saved; IA32_RTIT_CTL is cleared if
exit control 25 says so; VMX root operation; control passes to the host. A VM exit serializes (20_memory.md R126). The guest
pending debug exceptions field keeps its value at every exit: an exit of Intel PT output does not clear it, and the value
that an INIT-caused exit leaves is base VMX (51 R550; DESIGN CHOICE, assumption 31). -/
def State.vmExit (s : State) (reason : ExitReason) (qual : Word64) : State :=
  { s with
    vmx := { s.vmx with
      mode := .root
      handedOver := true
      justEntered := false
      vmcs := { s.vmx.vmcs with
        exitReason := reason
        entryFailure := false
        exitQualification := qual
        guestRip := s.rip
        guestRtitCtl := if s.rtitFieldExists then s.msr.rtitCtl else s.vmx.vmcs.guestRtitCtl } }
    msr := { s.msr with rtitCtl := if s.clearsRtit then 0#64 else s.msr.rtitCtl }
    stale := [] }

/-- A VM exit that also saves a guest-linear and a guest-physical address (50 R511). -/
def State.vmExitAt (s : State) (reason : ExitReason) (qual gla gpa : Word64) : State :=
  let t := s.vmExit reason qual
  { t with vmx := { t.vmx with vmcs := { t.vmx.vmcs with guestLinearAddress := gla, guestPhysicalAddress := gpa } } }

end Sys2Proof.Machine
end

