-- ==== Sys2Proof/Machine/Access.lean ====
section
/-! DEFINITION. Accesses to memory by linear address: address form, alignment, translation, #AC, EPT and sub-page
permissions, in the order of 20_memory.md R104; fetching an instruction's bytes (R126). 50 R501 to R517. -/

namespace Sys2Proof.Machine

/-- What an access is checked as (20_memory.md R110, R111). -/
inductive AccessKind | read | write | fetch
  deriving DecidableEq, Repr

/-- One access: its kind; whether an address outside 0 to FFFFH through SS is #SS in real-address mode (UMONITOR's list,
45 R390) and in virtual-8086 mode (UMONITOR; legacy-SSE forms, 60_exceptions.md R611, R624); the alignment it demands on
pain of #GP(0) (R106, 1 for none); the alignment that #AC checks (R107, 1 for none); whether it is one of the writes that
may ignore sub-page permissions (50 R512); whether it is locked (53 R591). -/
structure Access where
  kind : AccessKind
  ssInReal : Bool
  ssInV86 : Bool
  gpAlign : Nat
  acAlign : Nat
  multiWrite : Bool
  locked : Bool
  deriving DecidableEq, Repr

/-- An access of a kind with no further property. -/
def Access.plain (k : AccessKind) : Access :=
  { kind := k, ssInReal := false, ssInV86 := false, gpAlign := 1, acAlign := 1, multiWrite := false, locked := false }
/-- A plain read. -/
def Access.load : Access := Access.plain .read
/-- A plain write. -/
def Access.store : Access := Access.plain .write

/-! ## 1. Address form (R103 to R105) -/

/-- `LA(seg, off)` (R103). -/
def linearAddress (s : State) (seg : Seg) (off : Word64) : Word64 :=
  if s.is64 then
    match seg with
    | .fs => s.sys.fs.base + off
    | .gs => s.sys.gs.base + off
    | _ => off
  else (((s.segment seg).base + off).setWidth 32).setWidth 64

/-- Canonical form: bits 63 to `LINADDR_BITS` - 1 all equal (R105). -/
def canonical (linAddrBits : Nat) (a : Word64) : Bool :=
  let t := a.sshiftRight (linAddrBits - 1)
  t == 0#64 || t == BitVec.allOnes 64

/-- Is the selector NULL? -/
def SegReg.isNull (r : SegReg) : Bool := r.selector &&& 0xFFFC#16 == 0#16

/-- The address form of an access of `n` bytes: none where it is legal, else the exception (R104 step 1). -/
def formFault (s : State) (a : Access) (seg : Seg) (off : Word64) (n : Nat) : Option Exc :=
  let stack : Exc := if seg = .ss then .ss else .gp
  match s.mode with
  | .long =>
    let la := linearAddress s seg off
    if (List.range n).all fun i => canonical s.cfg.linAddrBits (la + BitVec.ofNat 64 i) then none else some stack
  | .real => if off.toNat + n ≤ 0x10000 then none else some (if a.ssInReal then stack else .gp)
  | .v86 => if off.toNat + n ≤ 0x10000 then none else some (if a.ssInV86 then stack else .gp)
  | .prot =>
    if (s.segment seg).isNull then some .gp
    else if off.toNat + n ≤ (s.segment seg).limit.toNat + 1 then none else some stack
  | .compat =>
    if (s.segment seg).isNull then some .gp
    else if off.toNat + n ≤ (s.segment seg).limit.toNat + 1 then none else some stack

/-! ## 3. Translation (R110) -/

/-- A linear address advanced by some bytes; outside 64-bit mode linear addresses have 32 bits. -/
def advance (s : State) (la : Word64) (n : Nat) : Word64 :=
  if s.is64 then la + BitVec.ofNat 64 n else ((la + BitVec.ofNat 64 n).setWidth 32).setWidth 64

/-- An access cut where it crosses into the next 4-KByte page. -/
def pageChunks (s : State) (la : Word64) (n : Nat) : List (Word64 × Nat) :=
  let room := 4096 - la.toNat % 4096
  if n = 0 then []
  else if n ≤ room then [(la, n)]
  else [(la, room), (advance s la room, n - room)]

/-- The page-fault error code: P, W/R, U/S, I/D (60_exceptions.md R602). -/
def faultCode (s : State) (k : AccessKind) (present : Bool) : BitVec 32 :=
  BitVec.ofBool (decide (k = .fetch)) ++ (BitVec.ofBool false ++ (BitVec.ofBool (decide (s.cpl = 3)) ++
    (BitVec.ofBool (decide (k = .write)) ++ BitVec.ofBool present))) |>.setWidth 32

/-- May the page be accessed so? -/
def PageEntry.allows (p : PageEntry) (s : State) (k : AccessKind) : Bool :=
  (p.user || decide (s.cpl ≠ 3)) && (p.writable || decide (k ≠ .write)) && (p.executable || decide (k ≠ .fetch))

/-- The accessed flag set, and the dirty flag on a write (R110; UMONITOR sets A and not D, 45 R382). -/
def PageEntry.touch (p : PageEntry) (k : AccessKind) : PageEntry :=
  { p with accessed := true, dirty := p.dirty || decide (k = .write) }

/-- The pages that translate now: none in real-address mode or with CR0.PG = 0 (R110; 44_pconfig.md R369). -/
def State.pages (s : State) : Option (List PageEntry) :=
  if decide (s.mode ≠ .real) && bit s.sys.cr0 31 then s.paging else none

/-- `translate(la, kind, CPL)`: the guest-physical or physical address of a byte, or #PF (R110). That the processor's own
setting of accessed and dirty flags is under no split-lock test is the model's choice (53 R593; DESIGN CHOICE, assumption
39). -/
def translate (s : State) (k : AccessKind) (la : Word64) : Except Stop (Nat × State) :=
  match s.pages with
  | none => .ok (la.toNat, s)
  | some ps =>
    match ps.find? fun p => p.page == la.toNat / 4096 with
    | none => .error (raisePF (faultCode s k false) la)
    | some p =>
      if p.allows s k then
        .ok (p.paBase + la.toNat % 4096,
          { s with paging := some (ps.map fun q => if q.page == la.toNat / 4096 then q.touch k else q) })
      else .error (raisePF (faultCode s k true) la)

/-- Translation of every chunk: linear address, guest-physical address, length. -/
def translateAll (s : State) (k : AccessKind) : List (Word64 × Nat) → Except Stop (List (Word64 × Nat × Nat) × State)
  | [] => .ok ([], s)
  | (la, n) :: rest => do
    let (pa, s) ← translate s k la
    let (ts, s) ← translateAll s k rest
    pure ((la, pa, n) :: ts, s)

/-! ## 5. EPT and sub-page permissions (50 R500 to R517) -/

/-- Does EPT translate now (50 R500)? -/
def State.eptOn (s : State) : Bool := decide (s.vmx.mode = .nonRoot) && s.vmx.vmcs.enableEpt

/-- `SPP_ON` (50 R501), on a processor that supports the control (50 R521). -/
def State.sppOn (s : State) : Bool := s.eptOn && s.vmx.vmcs.secondary 23 && s.sppSupported

/-- Bytes of a page. -/
def PageSize.bytes : PageSize → Nat
  | .k4 => 0x1000
  | .m2 => 0x200000
  | .g1 => 0x40000000

/-- The EPT mapping that covers a guest-physical address. -/
def eptFind (s : State) (gpa : Nat) : Option EptEntry :=
  s.vmx.ept.find? fun e => decide (e.gpaBase ≤ gpa) && decide (gpa < e.gpaBase + e.size.bytes)

/-- The result of `spp_lookup` (50 R506): the L1E, a miss or a misconfiguration. -/
inductive SppResult
  | permissions (l1e : Word64)
  | miss
  | misconfiguration
  deriving DecidableEq, Repr

/-- The SPPT entry of a level, at `addr`, for a guest-physical address: read afresh or as any past lookup of the same page
under the same SPPTP read it, if that is still cached, at the processor's choice (50 R517, D44). -/
def sppEntry (s : State) (gpa level addr : Nat) : Word64 × State :=
  let cached := (s.vmx.sppCache.filter fun c =>
    c.level == level && c.spptp == s.vmx.vmcs.spptp && c.page == BitVec.ofNat 36 (gpa / 4096)).map (·.value)
  match cached with
  | [] => (s.phys64 addr, s)
  | v :: vs =>
    let all := v :: vs
    (all.getD (s.anyNat % (all.length + 1)) (s.phys64 addr), s.drawn)

/-- An entry that passed its tests may be cached (50 R517). -/
def State.sppKeep (s : State) (gpa level : Nat) (v : Word64) : State :=
  { s with vmx := { s.vmx with sppCache :=
      { level := level, spptp := s.vmx.vmcs.spptp, page := BitVec.ofNat 36 (gpa / 4096), value := v } :: s.vmx.sppCache } }

/-- `reserved_set` for L4E, L3E and L2E: bits 11:1 and 63:M (50 R507). -/
def sppReserved (maxPhyAddr : Nat) (e : Word64) : Bool :=
  e.extractLsb' 1 11 != 0#11 || e.toNat / 2 ^ maxPhyAddr != 0

/-- The odd bits of an L1E are reserved (50 R507). -/
def sppReservedL1 (e : Word64) : Bool := e &&& 0xAAAAAAAAAAAAAAAA#64 != 0#64

/-- Bits 51:12 of an entry or of SPPTP, as a table address, plus a 9-bit index times 8 (50 R506). -/
def sppAddr (base : Word64) (gpa lo : Nat) : Nat := base.toNat / 0x1000 % 2 ^ 40 * 0x1000 + gpa / 2 ^ lo % 512 * 8

/-- The walk from a table of this level (4, 3, 2, then 1), whose address is in `base` (50 R506). -/
def sppWalk (s : State) (gpa : Nat) (base : Word64) : Nat → SppResult × State
  | 0 =>
    let addr := sppAddr base gpa 12
    let (e, s) := sppEntry s gpa 1 addr
    if sppReservedL1 e then (.misconfiguration, s) else (.permissions e, s.sppKeep gpa 1 e)
  | n + 1 =>
    let addr := sppAddr base gpa (12 + 9 * (n + 1))
    let (e, s) := sppEntry s gpa (n + 2) addr
    if sppReserved s.cfg.maxPhyAddr e then (.misconfiguration, s)
    else if !bit e 0 then (.miss, s)
    else sppWalk (s.sppKeep gpa (n + 2) e) gpa e n

/-- `spp_lookup(gpa)` (50 R506). -/
def sppLookup (s : State) (gpa : Nat) : SppResult × State := sppWalk s gpa s.vmx.vmcs.spptp 3

/-- Are all the 128-byte regions writeable that `n` bytes at a guest-physical address touch (50 R507, R512)? -/
def sppAllows (l1e : Word64) (gpa n : Nat) : Bool :=
  (List.range 32).all fun i =>
    decide (i < gpa % 4096 / 128) || decide ((gpa % 4096 + n - 1) / 128 < i) || l1e.getLsbD (2 * i)

/-- An EPT violation exit: the qualification format is base VMX, a free value, with bit 16 clear (51 R548). -/
def eptViolation (s : State) (la : Word64) (gpa : Nat) : Stop :=
  .exit (s.drawn.vmExitAt .eptViolation (clearBit s.any64 16) la (BitVec.ofNat 64 gpa))

/-- An APIC-access exit, with bit 16 of the qualification clear (51 R548). -/
def apicExit (s : State) (la : Word64) (gpa : Nat) : Stop :=
  .exit (s.drawn.vmExitAt .apicAccess (clearBit s.any64 16) la (BitVec.ofNat 64 gpa))

/-- Which byte of a chunk an SPP-induced exit reports: the first, or any of them where the write spans sub-pages or
crosses a page (50 R511). -/
def sppByte (s : State) (crosses : Bool) (gpa n : Nat) : Nat :=
  if !crosses && decide (gpa / 128 = (gpa + n - 1) / 128) then 0 else s.anyNat % n

/-- An SPP-induced exit, reason 66: bit 11 set for a miss; bit 12 is 0, as no instruction in scope is an IRET; the
other bits are written as 0 (50 R510, R511, D41). -/
def sppExit (s : State) (isMiss crosses : Bool) (la : Word64) (gpa n : Nat) : Stop :=
  let k := sppByte s crosses gpa n
  .exit (s.drawn.vmExitAt .sppInduced (if isMiss then 0x800#64 else 0#64) (advance s la k) (BitVec.ofNat 64 (gpa + k)))

/-- A write that EPT's accumulated write bit does not allow: the SPPT decides it where SPP_ON, a 4-KByte leaf and its
bit 61 say so, else it is an EPT violation (50 R504). -/
def sppWrite (s : State) (e : EptEntry) (spp crosses : Bool) (la : Word64) (gpa n : Nat) : Except Stop State :=
  if s.sppOn && decide (e.size = .k4) && spp then
    match sppLookup s gpa with
    | (.permissions l1e, s) => if sppAllows l1e gpa n then .ok s else .error (eptViolation s la gpa)
    | (.miss, s) => .error (sppExit s true crosses la gpa n)
    | (.misconfiguration, s) => .error (sppExit s false crosses la gpa n)
  else .error (eptViolation s la gpa)

/-- Is the physical address on the APIC-access page, with "virtualize APIC accesses" on (50 R516)? -/
def State.onApicPage (s : State) (pa : Nat) : Bool :=
  s.vmx.vmcs.virtualizeApic && decide (s.vmx.apicAccessPage = some (pa / 4096 * 4096))

/-- An enclave's access to its enclave range: it ignores sub-page permissions (50 R515, D30). The part of an access that
lies in one page is judged by its first byte, the EPC and the EPCM below likewise (DESIGN CHOICE, assumption 33). -/
def State.enclaveAccess (s : State) (pa : Nat) : Bool :=
  s.vmx.enclaveMode && s.cfg.enclaveRanges.any fun r => decide (r.1 ≤ pa) && decide (pa < r.1 + r.2)

/-- A 40-bit quantity in bits 31:12 of one register and 19:0 of the next, in bytes. -/
def epcField (lo hi : Word32) : Nat := lo.toNat / 0x1000 * 0x1000 + hi.toNat % 0x100000 * 0x100000000

/-- Is the physical address in the EPC, as the sub-leaves of type 0001b of CPUID leaf 12H give it
(41_cpuid_leaves.md R284; 60_exceptions.md R620), where leaf 07H reports SGX? -/
def inEpc (c : Cfg) (pa : Nat) : Bool :=
  (c.cpuid.any fun e => e.leaf == 7#32 && e.subleaf == 0#32 && e.ebx.getLsbD 2) &&
    c.cpuid.any fun e => e.leaf == 0x12#32 && decide (2#32 ≤ e.subleaf) && e.eax.setWidth 4 == 1#4 &&
      decide (epcField e.eax e.ebx ≤ pa) && decide (pa < epcField e.eax e.ebx + epcField e.ecx e.edx)

/-- `epcm_allows(pa, access)` (60_exceptions.md R620). -/
def epcmAllows (c : Cfg) (pa : Nat) (k : AccessKind) : Bool :=
  c.epcmDenials.all fun d => decide (d.page ≠ pa / 4096) ||
    !(match k with | .read => d.read | .write => d.write | .fetch => d.execute)

/-- Table 3-4, notes 5 and 6, after the EPT checks of an enclave access: #PF where the address is not in the EPC, is on
the APIC-access page, or is denied by the EPCM (50 R515; 60_exceptions.md R620). The error code has P and SGX (R602). -/
def enclaveCheck (s : State) (k : AccessKind) (la : Word64) (pa : Nat) : Except Stop Unit :=
  if s.enclaveAccess pa &&
      (!inEpc s.cfg pa || s.onApicPage pa || !epcmAllows s.cfg pa k) then
    .error (raisePF (faultCode s k true ||| 0x8000#32) la)
  else .ok ()

/-- The EPT check of one chunk: its physical address, or the VM exit it causes (50 R504, R512, R515, R516). `weak`: the
write may be treated as if the SPP bit were 0 (50 R512); `crosses`: the access crosses a page. R512 and R516 do not say
whether an SPP bit so ignored counts as 0 for R516's test of the APIC-access page too: where that decides, for an allowed
write under `sppVapicTogether` = false, it does so or not at a free choice (DESIGN CHOICE, assumption 32). -/
def eptChunk (s : State) (k : AccessKind) (weak crosses : Bool) (la : Word64) (gpa n : Nat) : Except Stop (Nat × State) :=
  match eptFind s gpa with
  | none => .error (eptViolation s la gpa)
  | some e =>
    let pa := s.physical (e.paBase + (gpa - e.gpaBase))
    let spp := e.spp && decide (e.size = .k4) && s.sppOn
    if e.misconfigured then .error (.exit (s.vmExit .eptMisconfiguration 0#64))
    else if (k = .read ∧ e.read = false) ∨ (k = .fetch ∧ e.execute = false) then .error (eptViolation s la gpa)
    else if s.enclaveAccess pa then
      if k = .write ∧ e.accW = false then .error (eptViolation s la gpa) else .ok (pa, s)
    else if s.onApicPage pa && (!spp || s.cfg.sppVapicTogether) then
      if k = .write ∧ e.accW = false then .error (eptViolation s la gpa) else .error (apicExit s la gpa)
    else if k = .write ∧ e.accW = false then
      if spp && weak then
        (sppWrite s.drawn e s.anyBool crosses la gpa n).map fun t => (pa, t)
      else (sppWrite s e spp crosses la gpa n).map fun t => (pa, t)
    else if k = .write ∧ weak = true ∧ s.onApicPage pa = true then
      if s.anyBool then .error (apicExit s.drawn la gpa) else .ok (pa, s.drawn)
    else .ok (pa, s)

/-- The second-level check of one chunk: EPT and then the EPC where EPT translates; elsewhere no rule of 50 applies and the
address is physical (50 R500, R515). -/
def secondLevel (s : State) (k : AccessKind) (weak crosses : Bool) (la : Word64) (gpa n : Nat) :
    Except Stop (Nat × State) :=
  if s.eptOn then do
    let (pa, s) ← eptChunk s k weak crosses la gpa n
    enclaveCheck s k la pa
    pure (pa, s)
  else .ok (s.physical gpa, s)

/-- The bytes of a chunk of physical memory. -/
def chunkBytes (pa n : Nat) : List Nat := (List.range n).map fun i => pa + i

/-- The second-level check of every chunk: the physical address of every byte of the access. Which page of a write that
crosses into another is checked first is a free value where EPT translates (50 R511). -/
def eptAll (s : State) (k : AccessKind) (weak : Bool) : List (Word64 × Nat × Nat) → Except Stop (List Nat × State)
  | [] => .ok ([], s)
  | [(la, gpa, n)] => do
    let (pa, s) ← secondLevel s k weak false la gpa n
    pure ((chunkBytes pa n).map s.physical, s)
  | (la, gpa, n) :: (la', gpa', n') :: _ =>
    if s.eptOn && decide (k = .write) && s.anyBool then do
      let (pa', s) ← secondLevel s.drawn k weak true la' gpa' n'
      let (pa, s) ← secondLevel s k weak true la gpa n
      pure ((chunkBytes pa n ++ chunkBytes pa' n').map s.physical, s)
    else do
      let (pa, s) ← secondLevel (if s.eptOn && decide (k = .write) then s.drawn else s) k weak true la gpa n
      let (pa', s) ← secondLevel s k weak true la' gpa' n'
      pure ((chunkBytes pa n ++ chunkBytes pa' n').map s.physical, s)

/-! ## The whole check, reading and writing -/

/-- Is #AC armed for this reference: CR0.AM, EFLAGS.AC, CPL 3, not real-address mode (R107)? -/
def State.alignCheck (s : State) : Bool :=
  decide (s.mode ≠ .real) && bit s.sys.cr0 18 && bit s.rflags 18 && decide (s.cpl = 3)

/-- Do the bytes of an access lie in two cache lines, of the size CPUID reports (53 R592)? -/
def splitsLine (s : State) (la : Word64) (size : Nat) : Bool :=
  decide (la.toNat / s.cfg.clflushLine ≠ (la.toNat + size - 1) / s.cfg.clflushLine)

/-- #AC(0) for a split locked access while TEST_CTL[29] is 1, whatever TEST_CTL[31], CPL, CR0.AM and EFLAGS.AC are
(53 R591). -/
def splitLockFaults (s : State) (la : Word64) (size : Nat) : Bool :=
  s.cfg.features.splitLock && s.msr.testCtl.getLsbD 29 && splitsLine s la size

/-- The checks of an access of `n` bytes at `seg:off`, in the order of R104, giving the physical address of every byte
and the state with the accessed and dirty flags set. -/
def locate (s : State) (a : Access) (seg : Seg) (off : Word64) (n : Nat) : Except Stop (List Nat × State) :=
  let la := linearAddress s seg off
  match formFault s a seg off n with
  | some e => .error (raise s e)
  | none => do
    check s (decide (la.toNat % a.gpAlign = 0)) .gp
    let (ts, t) ← translateAll s a.kind (pageChunks s la n)
    check s (!s.alignCheck || decide (la.toNat % a.acAlign = 0)) .ac
    check s (!(a.locked && splitLockFaults s la n)) .ac
    eptAll t a.kind (a.multiWrite || decide (ts.length > 1)) ts

/-- `MemRead`: the bytes, first at the lowest address. Each is a byte access of its own, in no stated order (R108, D9): a
store of another agent meanwhile is seen byte by byte or not at all (`Input.storeMeanwhile`, assumption 40). -/
def readMem (s : State) (a : Access) (seg : Seg) (off : Word64) (n : Nat) : Except Stop (List Byte × State) := do
  let (pas, s) ← locate s a seg off n
  pure (pas.map s.byte, s)

/-- `MemWrite` of these bytes. A store that faults on any byte writes none (R104, 60 R600). Against a store of another
agent meanwhile each byte stands or is overwritten by itself (R108, D9; `Input.storeMeanwhile`, assumption 40). -/
def writeMem (s : State) (a : Access) (seg : Seg) (off : Word64) (bytes : List Byte) : Except Stop State := do
  let (pas, s) ← locate s a seg off bytes.length
  pure (s.storeOwn (pas.zip bytes))

/-! ## Fetching an instruction's bytes (10_state.md R35, 20_memory.md R126) -/

/-- What a fetch sees at a physical address: the byte there, or, before a serializing event, any byte that was there
since the last one (R126). -/
def fetchSees (s : State) (pa i : Nat) : Byte :=
  match (s.stale.filter fun c => c.1 == pa).map (·.2) with
  | [] => s.byte pa
  | b :: bs => (b :: bs).getD (Config.drawNat (s.draws + i) % ((b :: bs).length + 1)) (s.byte pa)

/-- The offset of the byte `i` bytes after RIP; IP has 16 bits and EIP 32 bits outside 64-bit mode (R35). -/
def ripPlus (s : State) (n : Nat) : Word64 :=
  let r := s.rip + BitVec.ofNat 64 n
  if s.is64 then r else if s.sys.cs.d then (r.setWidth 32).setWidth 64 else (r.setWidth 16).setWidth 64

/-- The fetch access. -/
def Access.code : Access := Access.plain .fetch

/-- The byte `i` of the instruction stream, or why it cannot be fetched. -/
def fetchByte (s : State) (i : Nat) : Except Stop Byte := do
  let (pas, _) ← locate s Access.code .cs (ripPlus s i) 1
  match pas with
  | [] => .error (raise s .gp)
  | pa :: _ => pure (fetchSees s pa i)

/-- Up to `n` bytes of the instruction stream from byte `i`, and what stopped short of them, if anything. -/
def fetchFrom (s : State) : Nat → Nat → List Byte × Option Stop
  | 0, _ => ([], none)
  | n + 1, i =>
    match fetchByte s i with
    | .error e => ([], some e)
    | .ok b =>
      let (bs, e) := fetchFrom s n (i + 1)
      (b :: bs, e)

/-- The longest instruction (30_encoding.md R151). -/
def maxInstrLen : Nat := 15

/-- The accessed flags of the pages an instruction of `len` bytes was fetched from. -/
def touchCode (s : State) (len : Nat) : State :=
  match locate s Access.code .cs s.rip len with
  | .ok (_, t) => t
  | .error _ => s

end Sys2Proof.Machine
end

