-- ==== Sys2Proof/Machine/Elements.lean ====
section
/-! DEFINITION. Elements of a vector (00_scope.md R12, R13): reading one, building a vector from all of them, and the
arithmetic on elements that several families share. -/

namespace Sys2Proof.Machine

/-- Element `j` of width `E` of a vector: bits `E*j + E-1 : E*j` (R12). -/
def elem (E : Nat) (v : Vec) (j : Nat) : BitVec E := v.extractLsb' (E * j) E

/-- The vector whose elements from `j` on are given, `n` of them; the rest is 0. -/
def lanesFrom (E : Nat) (f : Nat → BitVec E) : Nat → Nat → Vec
  | 0, _ => 0#512
  | n + 1, j => (lanesFrom E f n (j + 1)) <<< E ||| (f j).setWidth 512

/-- The vector of `n` elements of width `E`; bits above are 0. -/
def lanes (E n : Nat) (f : Nat → BitVec E) : Vec := lanesFrom E f n 0

/-- `popcnt(v)` (R13). -/
def popcnt {w : Nat} (v : BitVec w) : Nat := (List.range w).foldl (fun n i => n + (v.getLsbD i).toNat) 0

/-- `parity(v)`: the XOR of all bits (R13). -/
def parity {w : Nat} (v : BitVec w) : Bool := (List.range w).foldl (fun p i => p != v.getLsbD i) false

/-- Bytes of memory as a vector, first byte lowest (20_memory.md R100). -/
def vecOfBytes : List Byte → Vec
  | [] => 0#512
  | b :: bs => (vecOfBytes bs) <<< 8 ||| b.setWidth 512

/-- The first `n` bytes of a vector, lowest first. -/
def bytesOfVec (v : Vec) (n : Nat) : List Byte := (List.range n).map fun i => elem 8 v i

/-- Saturation of an exact integer to a signed width (48_vnni.md R461). -/
def saturate (w : Nat) (x : Int) : BitVec w := BitVec.ofInt w (max (-2 ^ (w - 1)) (min (2 ^ (w - 1) - 1) x))

end Sys2Proof.Machine
end

