-- ==== Sys2Proof/Machine/Operands.lean ====
section
/-! DEFINITION. Every operand form: effective addresses (30_encoding.md R166, R190), segments, and the frame of the
vector instructions: encoding and availability checks, `VecSrc`, `VecWrite` (60_exceptions.md R610 to R617). -/

namespace Sys2Proof.Machine

/-! ## Effective addresses (R166, R190) -/

/-- The address size in the current mode. -/
def State.addrSize (s : State) (p : Pfx) : AddrSize := Sys2Proof.addrSize s.decodeMode p.addr67

/-- The value of a displacement: sign-extended, an 8-bit one scaled by N under EVEX (R190, R194). -/
def dispValue (n : Nat) : Disp → Word64
  | .none => 0#64
  | .d8 v => v.signExtend 64 * BitVec.ofNat 64 n
  | .d16 v => v.signExtend 64
  | .d32 v => v.signExtend 64

/-- An offset cut to the address size. -/
def cutOffset (a : AddrSize) (v : Word64) : Word64 :=
  match a with
  | .a64 => v
  | .a32 => (v.setWidth 32).setWidth 64
  | .a16 => (v.setWidth 16).setWidth 64

/-- The register sum of the 16-bit table: BX+SI, BX+DI, BP+SI, BP+DI, SI, DI, BP, BX (R166). -/
def base16 (s : State) (rm : BitVec 3) : Word64 :=
  match rm.toNat with
  | 0 => s.gpr64 3#4 + s.gpr64 6#4
  | 1 => s.gpr64 3#4 + s.gpr64 7#4
  | 2 => s.gpr64 5#4 + s.gpr64 6#4
  | 3 => s.gpr64 5#4 + s.gpr64 7#4
  | 4 => s.gpr64 6#4
  | 5 => s.gpr64 7#4
  | 6 => s.gpr64 5#4
  | _ => s.gpr64 3#4

/-- The offset of a memory operand before it is cut: base + (index << scale) + displacement (R166). -/
def rawOffset (s : State) (n : Nat) : Mem → Word64
  | .base r d => s.gpr64 r + dispValue n d
  | .ripRel d => if s.is64 then s.nextRip + d.signExtend 64 else d.setWidth 64
  | .sib b i sc d =>
    (match b with | some r => s.gpr64 r | none => 0#64) +
      (if i = 4#4 then 0#64 else s.gpr64 i <<< sc.toNat) + dispValue n d
  | .a16 rm d => base16 s rm + dispValue n d
  | .disp16 d => d.setWidth 64

/-- The default segment: SS when the base register is RSP or RBP (BP), else DS (R166). -/
def defaultSeg : Mem → Seg
  | .base r _ => if r = 4#4 ∨ r = 5#4 then .ss else .ds
  | .ripRel _ => .ds
  | .sib (some r) _ _ _ => if r = 4#4 ∨ r = 5#4 then .ss else .ds
  | .sib none _ _ _ => .ds
  | .a16 rm _ => if rm = 2#3 ∨ rm = 3#3 ∨ rm = 6#3 then .ss else .ds
  | .disp16 _ => .ds

/-- The segment after an override; in 64-bit mode overrides of CS, DS and ES have no effect (R164, R166, R624). -/
def effSeg (s : State) (p : Pfx) (dflt : Seg) : Seg :=
  match p.seg with
  | none => dflt
  | some o => if s.is64 && (decide (o = .cs) || decide (o = .ds) || decide (o = .es)) then dflt else o

/-- The segment of a ModRM memory operand. -/
def memSeg (s : State) (p : Pfx) (m : Mem) : Seg := effSeg s p (defaultSeg m)
/-- The offset of a ModRM memory operand; `n` scales an 8-bit displacement. -/
def memOff (s : State) (p : Pfx) (n : Nat) (m : Mem) : Word64 := cutOffset (s.addrSize p) (rawOffset s n m)

/-! ## Availability (R175, R606, R611 to R613) -/

/-- Is a flag of a CPUID feature cell 1? -/
def hasFeature (f : Features) : Feature → Bool
  | .sse => f.sse | .avx => f.avx | .avx512f => f.avx512f | .avx512vl => f.avx512vl | .vbmi2 => f.vbmi2
  | .gfni => f.gfni | .vaes => f.vaes | .vpclmulqdq => f.vpclmulqdq | .vnni => f.vnni | .bitalg => f.bitalg
  | .vpopcntdq => f.vpopcntdq | .waitpkg => f.waitpkg | .cldemote => f.cldemote | .movdiri => f.movdiri
  | .movdir64b => f.movdir64b | .pconfig => f.pconfig | .wbnoinvd => f.wbnoinvd

/-- Every flag of the cell is 1 (30_encoding.md R163). -/
def hasAll (s : State) (cell : List Feature) : Bool := cell.all (hasFeature s.cfg.features)

/-- The encoding class of a vector row. -/
inductive Form | sse | vex | evex
  deriving DecidableEq, Repr

/-- The state-enable condition and the mode of a class (10_state.md R44; R611, R612). EVEX also needs AVX512F: the third
test of the detection sequence (40_cpuid_instruction.md R232). -/
def stateEnabled (s : State) (f : Form) : Bool :=
  let avxOn := bit s.sys.cr4 18 && bit s.sys.xcr0 1 && bit s.sys.xcr0 2
  let modeOk := decide (s.mode ≠ .real) && decide (s.mode ≠ .v86)
  match f with
  | .sse => !bit s.sys.cr0 2 && bit s.sys.cr4 9
  | .vex => modeOk && avxOn
  | .evex => modeOk && s.cfg.features.avx512f && avxOn && bit s.sys.xcr0 5 && bit s.sys.xcr0 6 && bit s.sys.xcr0 7

/-- What the table says of a vector row: its feature cell, class, vector length, masking element width, broadcast element
in bytes (0 for none), the factor N without broadcast, whether memory faults are suppressed, whether vvvv is an operand,
and its masking (30_encoding.md R193; 60_exceptions.md R617). -/
structure VecRow where
  cell : List Feature
  form : Form
  vl : Nat
  esz : Nat
  bcast : Nat
  disp8 : Nat
  suppress : Bool
  nds : Bool
  masking : Masking
  deriving DecidableEq, Repr

/-- A legacy-SSE row. -/
def sseRow (cell : List Feature) : VecRow :=
  { cell := cell, form := .sse, vl := 128, esz := 8, bcast := 0, disp8 := 1, suppress := false, nds := false
    masking := .none }

/-- A VEX row. -/
def vexRow (cell : List Feature) (vl : Nat) : VecRow :=
  { cell := cell, form := .vex, vl := vl, esz := 8, bcast := 0, disp8 := 1, suppress := false, nds := true
    masking := .none }

/-- An EVEX row whose memory operand has the full width: N is that width in bytes (30_encoding.md R192). -/
def evexRow (cell : List Feature) (vl esz bcast : Nat) (suppress nds : Bool) (masking : Masking) : VecRow :=
  { cell := cell, form := .evex, vl := vl, esz := esz, bcast := bcast, disp8 := vl / 8, suppress := suppress
    nds := nds, masking := masking }

/-- Number of masking elements (00_scope.md R15). -/
def VecRow.kl (r : VecRow) : Nat := r.vl / r.esz

/-- The bits of an EVEX encoding that are #UD if wrong (30_encoding.md R173, R174, R176 to R178). -/
def evexLegal (r : VecRow) (e : Evex) (isMem : Bool) : Bool :=
  !e.pfx.forbidden && decide (e.p0res = 0#2) && e.p1one && (r.nds || decide (e.vvvv = 0#5)) &&
    (match r.masking with
     | .none => decide (e.aaa = 0#3) && !e.z
     | .mergeZero => !e.z || decide (e.aaa ≠ 0#3)
     | .mergeOnly => !e.z
     | .opmask => !e.z && decide (e.reg.toNat < 8)) &&
    (!e.b || (decide (r.bcast ≠ 0) && isMem))

/-- Steps 1 to 3 of the frame: #UD for the encoding, the features or the state; then #NM (R606, R610, R627). -/
def vecReady (s : State) (r : VecRow) (legal : Bool) : Except Stop Unit := do
  check s (legal && hasAll s r.cell && stateEnabled s r.form) .ud
  check s (!bit s.sys.cr0 3) .nm

/-! ## Sources (R614, R615) -/

/-- `MaskBit(j)` or no writemask (00_scope.md R16). -/
def active (s : State) (aaa : KReg) (j : Nat) : Bool := decide (aaa = 0#3) || (s.opmask aaa).getLsbD j

/-- Element-wise reading under fault suppression: an inactive element is not accessed; its value is never used (R614). The
lowest faulting element is the one reported (D22); within one element the checks go in the order of 20_memory.md R104
(assumption 19). -/
def readElems (s : State) (seg : Seg) (off : Word64) (nbytes : Nat) (act : Nat → Bool) :
    Nat → Nat → Except Stop (List Byte × State)
  | 0, _ => .ok ([], s)
  | n + 1, j => do
    let (bs, s) ←
      if act j then readMem s Access.load seg (off + BitVec.ofNat 64 (j * nbytes)) nbytes
      else .ok (List.replicate nbytes 0#8, s)
    let (rest, s) ← readElems s seg off nbytes act n (j + 1)
    pure (bs ++ rest, s)

/-- The access of a whole memory operand: legacy-SSE forms demand 16-byte alignment, and beyond FFFFH through SS raise
#SS(0) in virtual-8086 mode (R106, R611, R624). -/
def wholeLoad (f : Form) : Access :=
  { Access.load with gpAlign := if f = .sse then 16 else 1, ssInV86 := decide (f = .sse) }

/-- A memory source: broadcast of one element, element by element where faults are suppressed, else whole (R614). -/
def memSrc (s : State) (r : VecRow) (p : Pfx) (b : Bool) (act : Nat → Bool) (m : Mem) : Except Stop (Vec × State) :=
  let seg := memSeg s p m
  let off := memOff s p (if r.form = .evex then (if b then r.bcast else r.disp8) else 1) m
  if b then
    if r.suppress && !(List.range r.kl).any act then .ok (0#512, s)
    else do
      let (bs, s) ← readMem s Access.load seg off r.bcast
      pure (lanes (8 * r.bcast) (r.vl / (8 * r.bcast)) fun _ => (vecOfBytes bs).setWidth (8 * r.bcast), s)
  else if r.suppress then do
    let (bs, s) ← readElems s seg off (r.esz / 8) act r.kl 0
    pure (vecOfBytes bs, s)
  else do
    let (bs, s) ← readMem s (wholeLoad r.form) seg off (r.vl / 8)
    pure (vecOfBytes bs, s)

/-- `VecSrc`: the r/m source of a vector instruction (R614). -/
def vecSrc (s : State) (r : VecRow) (p : Pfx) (b : Bool) (act : Nat → Bool) : Rm → Except Stop (Vec × State)
  | .reg x => .ok (s.vec x, s)
  | .mem m => memSrc s r p b act m

/-! ## Destinations (R616) -/

/-- `VecWrite` under a mask: active elements from the result, the others kept or zeroed, zero above VL (R616). -/
def maskMerge (r : VecRow) (act : Nat → Bool) (z : Bool) (old res : Vec) : Vec :=
  lanes r.esz r.kl fun j => if act j then elem r.esz res j else if z then 0 else elem r.esz old j

/-- The low 128 bits replaced, the rest unmodified (10_state.md R41 (a)). -/
def sseMerge (old res : Vec) : Vec := old.extractLsb' 128 384 ++ res.setWidth 128

/-! ## The frame (R610) for a vector-register destination -/

/-- An EVEX instruction whose result is a function of the old destination, vvvv and the r/m source. -/
def runEvex (r : VecRow) (op : Vec → Vec → Vec → Vec) (e : Evex) (rm : Rm) (s : State) :
    Host.Outcome State Fault Refusal :=
  finish do
    vecReady s r (evexLegal r e rm.isMem)
    let (b, t) ← vecSrc s r e.pfx e.b (active s e.aaa) rm
    let res := op (s.vec e.reg) (s.vec e.vvvv) b
    pure (t.setVec e.reg (maskMerge r (active s e.aaa) e.z (s.vec e.reg) res)).complete

/-- A VEX instruction: zero above VL (10_state.md R41 (b)); the operation gives VL bits. -/
def runVex (r : VecRow) (op : Vec → Vec → Vec) (v : Vex) (rm : Rm) (s : State) : Host.Outcome State Fault Refusal :=
  finish do
    vecReady s r (!v.pfx.forbidden)
    let (b, t) ← vecSrc s r v.pfx false (fun _ => true) rm
    pure (t.setVec (v.reg.setWidth 5) (op (s.vec (v.vvvv.setWidth 5)) b)).complete

/-- A legacy-SSE instruction: the destination is also the first source; bits 511:128 are unmodified. -/
def runSse (r : VecRow) (op : Vec → Vec → Vec) (p : Pfx) (x : GReg) (rm : Rm) (s : State) :
    Host.Outcome State Fault Refusal :=
  finish do
    vecReady s r (!p.forbidden)
    let (b, t) ← vecSrc s r p false (fun _ => true) rm
    let d : VReg := x.setWidth 5
    pure (t.setVec d (sseMerge (s.vec d) (op (s.vec d) b))).complete

end Sys2Proof.Machine
end

