-- ==== Sys2Proof/Machine/Galois.lean ====
section
/-! DEFINITION. The field GF(2^8) of the Galois and AES instructions (43_gfni.md R341 to R344). -/

namespace Sys2Proof.Machine

/-- `gf2p8mul_byte`: the carry-less product at 16 bits, then reduction by 11BH from bit 14 down to bit 8 (R342). -/
def gf2p8mul (x y : Byte) : Byte :=
  let t := (List.range 8).foldl
    (fun (acc : BitVec 16) i => if y.getLsbD i then acc ^^^ (x.setWidth 16 <<< i) else acc) 0#16
  let t := [14, 13, 12, 11, 10, 9, 8].foldl
    (fun (acc : BitVec 16) i => if acc.getLsbD i then acc ^^^ (0x11B#16 <<< (i - 8)) else acc) t
  t.setWidth 8

/-- `inverse(x)`: the y with `gf2p8mul_byte(x, y) = 1`, and 0 for 0, as the 254th power (R343). -/
def gfInverse (x : Byte) : Byte :=
  let x2 := gf2p8mul x x
  let x3 := gf2p8mul x2 x
  let x6 := gf2p8mul x3 x3
  let x12 := gf2p8mul x6 x6
  let x15 := gf2p8mul x12 x3
  let x30 := gf2p8mul x15 x15
  let x60 := gf2p8mul x30 x30
  let x120 := gf2p8mul x60 x60
  let x126 := gf2p8mul x120 x6
  let x127 := gf2p8mul x126 x
  gf2p8mul x127 x127

/-- A byte from its bits, from bit `j` on. -/
def byteFrom (f : Nat → Bool) : Nat → Nat → Byte
  | 0, _ => 0#8
  | n + 1, j => (byteFrom f n (j + 1)) <<< 1 ||| (BitVec.ofBool (f j)).setWidth 8

/-- `affine_byte(A, x, b)`: row `7 - i` of the matrix gives bit `i` (R344). -/
def affineByte (a : Word64) (x b : Byte) : Byte :=
  byteFrom (fun i => parity (a.extractLsb' (8 * (7 - i)) 8 &&& x) != b.getLsbD i) 8 0

/-- `affine_inverse_byte(A, x, b)` (R344). -/
def affineInverseByte (a : Word64) (x b : Byte) : Byte := affineByte a (gfInverse x) b

end Sys2Proof.Machine
end

