-- ==== Sys2Proof/Machine/Aes.lean ====
section
/-! DEFINITION. VAESDEC, VAESDECLAST, VAESENC, VAESENCLAST and VPCLMULQDQ (46_vaes_vpclmulqdq.md R400 to R414): no
masking, no fault suppression, no broadcast; each 128-bit lane by itself. -/

namespace Sys2Proof.Machine

/-! ## The AES round primitives (R402 to R404) -/

/-- Byte `n` of a 128-bit STATE (R402). -/
def stateByte (st : BitVec 128) (n : Nat) : Byte := st.extractLsb' (8 * n) 8

/-- The STATE of 16 bytes, lowest first. -/
def stateOf (f : Nat → Byte) : BitVec 128 := (lanes 8 16 f).setWidth 128

/-- `ShiftRows`: byte r + 4c from row r, column c + r (R402). -/
def shiftRows (st : BitVec 128) : BitVec 128 := stateOf fun n => stateByte st (n % 4 + 4 * ((n / 4 + n % 4) % 4))

/-- `InvShiftRows`: byte r + 4c from row r, column c - r (R402). -/
def invShiftRows (st : BitVec 128) : BitVec 128 :=
  stateOf fun n => stateByte st (n % 4 + 4 * ((n / 4 + 4 - n % 4) % 4))

/-- `SBOX` (R403). -/
def sbox (x : Byte) : Byte := affineInverseByte 0xF1E3C78F1F3E7CF8#64 x 0x63#8

/-- The rows of `INVSBOX`, column 0 in the highest byte, as the table prints them (R404). -/
def invSboxRow (hi : Nat) : BitVec 128 :=
  match hi with
  | 0 => 0x52096AD53036A538BF40A39E81F3D7FB#128
  | 1 => 0x7CE339829B2FFF87348E4344C4DEE9CB#128
  | 2 => 0x547B9432A6C2233DEE4C950B42FAC34E#128
  | 3 => 0x082EA16628D924B2765BA2496D8BD125#128
  | 4 => 0x72F8F66486689816D4A45CCC5D65B692#128
  | 5 => 0x6C704850FDEDB9DA5E154657A78D9D84#128
  | 6 => 0x90D8AB008CBCD30AF7E45805B8B34506#128
  | 7 => 0xD02C1E8FCA3F0F02C1AFBD0301138A6B#128
  | 8 => 0x3A9111414F67DCEA97F2CFCEF0B4E673#128
  | 9 => 0x96AC7422E7AD3585E2F937E81C75DF6E#128
  | 10 => 0x47F11A711D29C5896FB7620EAA18BE1B#128
  | 11 => 0xFC563E4BC6D279209ADBC0FE78CD5AF4#128
  | 12 => 0x1FDDA8338807C731B11210592780EC5F#128
  | 13 => 0x60517FA919B54A0D2DE57A9F93C99CEF#128
  | 14 => 0xA0E03B4DAE2AF5B0C8EBBB3C83539961#128
  | _ => 0x172B047EBA77D626E169146355210C7D#128

/-- `INVSBOX` (R404). -/
def invSbox (x : Byte) : Byte := stateByte (invSboxRow (x.toNat / 16)) (15 - x.toNat % 16)

/-- `SubBytes` (R402). -/
def subBytes (st : BitVec 128) : BitVec 128 := stateOf fun n => sbox (stateByte st n)
/-- `InvSubBytes` (R402). -/
def invSubBytes (st : BitVec 128) : BitVec 128 := stateOf fun n => invSbox (stateByte st n)

/-- One column times a circulant matrix whose row 0 is `a b c d`: row r is that row turned right r times (R402). -/
def mixWith (a b c d : Byte) (st : BitVec 128) : BitVec 128 :=
  stateOf fun n =>
    let r := n % 4
    let col := fun k => stateByte st ((r + k) % 4 + 4 * (n / 4))
    gf2p8mul a (col 0) ^^^ gf2p8mul b (col 1) ^^^ gf2p8mul c (col 2) ^^^ gf2p8mul d (col 3)

/-- `MixColumns` with M, rows turned from 02 03 01 01 (R402). -/
def mixColumns (st : BitVec 128) : BitVec 128 := mixWith 2#8 3#8 1#8 1#8 st
/-- `InvMixColumns` with IM, rows turned from 0E 0B 0D 09 (R402). -/
def invMixColumns (st : BitVec 128) : BitVec 128 := mixWith 0x0E#8 0x0B#8 0x0D#8 0x09#8 st

/-- One lane of VAESDEC (R405). -/
def aesDec (st key : BitVec 128) : BitVec 128 := invMixColumns (invSubBytes (invShiftRows st)) ^^^ key
/-- One lane of VAESDECLAST (R406). -/
def aesDecLast (st key : BitVec 128) : BitVec 128 := invSubBytes (invShiftRows st) ^^^ key
/-- One lane of VAESENC (R407). -/
def aesEnc (st key : BitVec 128) : BitVec 128 := mixColumns (subBytes (shiftRows st)) ^^^ key
/-- One lane of VAESENCLAST (R408). -/
def aesEncLast (st key : BitVec 128) : BitVec 128 := subBytes (shiftRows st) ^^^ key

/-- A lane function on every 128-bit lane. -/
def aesOp (vl : Nat) (f : BitVec 128 → BitVec 128 → BitVec 128) (x y : Vec) : Vec :=
  lanes 128 (vl / 128) fun i => f (elem 128 x i) (elem 128 y i)

/-! ## Carry-less multiplication (R409 to R412) -/

/-- `PCLMUL128`: the XOR of `x << k` over the set bits `k` of `y` (R411). -/
def pclmul128 (x y : Word64) : BitVec 128 :=
  (List.range 64).foldl (fun acc k => if y.getLsbD k then acc ^^^ (x.setWidth 128 <<< k) else acc) 0#128

/-- A quadword of a lane. -/
def quadOf (lane : BitVec 128) (hi : Bool) : Word64 := lane.extractLsb' (if hi then 64 else 0) 64

/-- Each lane: imm[0] picks the half of vvvv, imm[4] the half of r/m (R409, R412). -/
def pclmulOp (vl : Nat) (imm : Byte) (x y : Vec) : Vec :=
  lanes 128 (vl / 128) fun i =>
    pclmul128 (quadOf (elem 128 x i) (imm.getLsbD 0)) (quadOf (elem 128 y i) (imm.getLsbD 4))

/-- VAESDEC ymm1, ymm2, ymm3/m256. -/
def execVaesdecVex256 (v : Vex) (rm : Rm) (s : State) : Host.Outcome State Fault Refusal :=
  runVex (vexRow [.vaes] 256) (aesOp 256 aesDec) v rm s

/-- VAESDEC xmm1, xmm2, xmm3/m128. -/
def execVaesdec128 (e : Evex) (rm : Rm) (s : State) : Host.Outcome State Fault Refusal :=
  runEvex (evexRow [.avx512vl, .vaes] 128 64 0 false true .none) (fun _ => aesOp 128 aesDec) e rm s

/-- VAESDEC ymm1, ymm2, ymm3/m256. -/
def execVaesdec256 (e : Evex) (rm : Rm) (s : State) : Host.Outcome State Fault Refusal :=
  runEvex (evexRow [.avx512vl, .vaes] 256 64 0 false true .none) (fun _ => aesOp 256 aesDec) e rm s

/-- VAESDEC zmm1, zmm2, zmm3/m512. -/
def execVaesdec512 (e : Evex) (rm : Rm) (s : State) : Host.Outcome State Fault Refusal :=
  runEvex (evexRow [.avx512f, .vaes] 512 64 0 false true .none) (fun _ => aesOp 512 aesDec) e rm s

/-- VAESDECLAST ymm1, ymm2, ymm3/m256. -/
def execVaesdeclastVex256 (v : Vex) (rm : Rm) (s : State) : Host.Outcome State Fault Refusal :=
  runVex (vexRow [.vaes] 256) (aesOp 256 aesDecLast) v rm s

/-- VAESDECLAST xmm1, xmm2, xmm3/m128. -/
def execVaesdeclast128 (e : Evex) (rm : Rm) (s : State) : Host.Outcome State Fault Refusal :=
  runEvex (evexRow [.avx512vl, .vaes] 128 64 0 false true .none) (fun _ => aesOp 128 aesDecLast) e rm s

/-- VAESDECLAST ymm1, ymm2, ymm3/m256. -/
def execVaesdeclast256 (e : Evex) (rm : Rm) (s : State) : Host.Outcome State Fault Refusal :=
  runEvex (evexRow [.avx512vl, .vaes] 256 64 0 false true .none) (fun _ => aesOp 256 aesDecLast) e rm s

/-- VAESDECLAST zmm1, zmm2, zmm3/m512. -/
def execVaesdeclast512 (e : Evex) (rm : Rm) (s : State) : Host.Outcome State Fault Refusal :=
  runEvex (evexRow [.avx512f, .vaes] 512 64 0 false true .none) (fun _ => aesOp 512 aesDecLast) e rm s

/-- VAESENC ymm1, ymm2, ymm3/m256. -/
def execVaesencVex256 (v : Vex) (rm : Rm) (s : State) : Host.Outcome State Fault Refusal :=
  runVex (vexRow [.vaes] 256) (aesOp 256 aesEnc) v rm s

/-- VAESENC xmm1, xmm2, xmm3/m128. -/
def execVaesenc128 (e : Evex) (rm : Rm) (s : State) : Host.Outcome State Fault Refusal :=
  runEvex (evexRow [.avx512vl, .vaes] 128 64 0 false true .none) (fun _ => aesOp 128 aesEnc) e rm s

/-- VAESENC ymm1, ymm2, ymm3/m256. -/
def execVaesenc256 (e : Evex) (rm : Rm) (s : State) : Host.Outcome State Fault Refusal :=
  runEvex (evexRow [.avx512vl, .vaes] 256 64 0 false true .none) (fun _ => aesOp 256 aesEnc) e rm s

/-- VAESENC zmm1, zmm2, zmm3/m512. -/
def execVaesenc512 (e : Evex) (rm : Rm) (s : State) : Host.Outcome State Fault Refusal :=
  runEvex (evexRow [.avx512f, .vaes] 512 64 0 false true .none) (fun _ => aesOp 512 aesEnc) e rm s

/-- VAESENCLAST ymm1, ymm2, ymm3/m256. -/
def execVaesenclastVex256 (v : Vex) (rm : Rm) (s : State) : Host.Outcome State Fault Refusal :=
  runVex (vexRow [.vaes] 256) (aesOp 256 aesEncLast) v rm s

/-- VAESENCLAST xmm1, xmm2, xmm3/m128. -/
def execVaesenclast128 (e : Evex) (rm : Rm) (s : State) : Host.Outcome State Fault Refusal :=
  runEvex (evexRow [.avx512vl, .vaes] 128 64 0 false true .none) (fun _ => aesOp 128 aesEncLast) e rm s

/-- VAESENCLAST ymm1, ymm2, ymm3/m256. -/
def execVaesenclast256 (e : Evex) (rm : Rm) (s : State) : Host.Outcome State Fault Refusal :=
  runEvex (evexRow [.avx512vl, .vaes] 256 64 0 false true .none) (fun _ => aesOp 256 aesEncLast) e rm s

/-- VAESENCLAST zmm1, zmm2, zmm3/m512. -/
def execVaesenclast512 (e : Evex) (rm : Rm) (s : State) : Host.Outcome State Fault Refusal :=
  runEvex (evexRow [.avx512f, .vaes] 512 64 0 false true .none) (fun _ => aesOp 512 aesEncLast) e rm s

/-- VPCLMULQDQ ymm1, ymm2, ymm3/m256, imm8. -/
def execVpclmulqdqVex256 (v : Vex) (rm : Rm) (imm : Byte) (s : State) : Host.Outcome State Fault Refusal :=
  runVex (vexRow [.vpclmulqdq] 256) (pclmulOp 256 imm) v rm s

/-- VPCLMULQDQ xmm1, xmm2, xmm3/m128, imm8. -/
def execVpclmulqdq128 (e : Evex) (rm : Rm) (imm : Byte) (s : State) : Host.Outcome State Fault Refusal :=
  runEvex (evexRow [.avx512vl, .vpclmulqdq] 128 64 0 false true .none) (fun _ => pclmulOp 128 imm) e rm s

/-- VPCLMULQDQ ymm1, ymm2, ymm3/m256, imm8. -/
def execVpclmulqdq256 (e : Evex) (rm : Rm) (imm : Byte) (s : State) : Host.Outcome State Fault Refusal :=
  runEvex (evexRow [.avx512vl, .vpclmulqdq] 256 64 0 false true .none) (fun _ => pclmulOp 256 imm) e rm s

/-- VPCLMULQDQ zmm1, zmm2, zmm3/m512, imm8. -/
def execVpclmulqdq512 (e : Evex) (rm : Rm) (imm : Byte) (s : State) : Host.Outcome State Fault Refusal :=
  runEvex (evexRow [.avx512f, .vpclmulqdq] 512 64 0 false true .none) (fun _ => pclmulOp 512 imm) e rm s

end Sys2Proof.Machine
end

