-- ==== Sys2Proof/Machine/Bitalg.lean ====
section
/-! DEFINITION. AVX512_BITALG and AVX512_VPOPCNTDQ (49_bitalg_vpopcnt.md R480 to R486): VPOPCNTB/W/D/Q and
VPSHUFBITQMB, whose destination is an opmask register. -/

namespace Sys2Proof.Machine

/-- The number of ones of every element, at the element's width (R482). -/
def popcntOp (w vl : Nat) (x : Vec) : Vec := lanes w (vl / w) fun j => BitVec.ofNat w (popcnt (elem w x j))

/-- Destination bit `n`: bit (control byte `n` AND 3FH) of quadword `n / 8` of the data (R485). -/
def shufBit (data ctl : Vec) (n : Nat) : Bool := (elem 64 data (n / 8)).getLsbD ((elem 8 ctl n).toNat % 64)

/-- The bits of an opmask register from bit `j` on. -/
def maskFrom (f : Nat → Bool) : Nat → Nat → Word64
  | 0, _ => 0#64
  | n + 1, j => (maskFrom f n (j + 1)) <<< 1 ||| (BitVec.ofBool (f j)).setWidth 64

/-- VPSHUFBITQMB: bits of inactive positions and bits KL and above are 0 (R485). -/
def runShufBit (r : VecRow) (e : Evex) (rm : Rm) (s : State) : Host.Outcome State Fault Refusal :=
  finish do
    vecReady s r (evexLegal r e rm.isMem)
    let act := active s e.aaa
    let (b, t) ← vecSrc s r e.pfx e.b act rm
    pure (t.setOpmask (e.reg.setWidth 3) (maskFrom (fun n => act n && shufBit (s.vec e.vvvv) b n) r.kl 0)).complete

/-- VPOPCNTB xmm1(k1)(z), xmm2/m128. -/
def execVpopcntb128 (e : Evex) (rm : Rm) (s : State) : Host.Outcome State Fault Refusal :=
  runEvex (evexRow [.bitalg, .avx512vl] 128 8 0 true false .mergeZero) (fun _ _ => popcntOp 8 128) e rm s

/-- VPOPCNTB ymm1(k1)(z), ymm2/m256. -/
def execVpopcntb256 (e : Evex) (rm : Rm) (s : State) : Host.Outcome State Fault Refusal :=
  runEvex (evexRow [.bitalg, .avx512vl] 256 8 0 true false .mergeZero) (fun _ _ => popcntOp 8 256) e rm s

/-- VPOPCNTB zmm1(k1)(z), zmm2/m512. -/
def execVpopcntb512 (e : Evex) (rm : Rm) (s : State) : Host.Outcome State Fault Refusal :=
  runEvex (evexRow [.bitalg] 512 8 0 true false .mergeZero) (fun _ _ => popcntOp 8 512) e rm s

/-- VPOPCNTW xmm1(k1)(z), xmm2/m128. -/
def execVpopcntw128 (e : Evex) (rm : Rm) (s : State) : Host.Outcome State Fault Refusal :=
  runEvex (evexRow [.bitalg, .avx512vl] 128 16 0 true false .mergeZero) (fun _ _ => popcntOp 16 128) e rm s

/-- VPOPCNTW ymm1(k1)(z), ymm2/m256. -/
def execVpopcntw256 (e : Evex) (rm : Rm) (s : State) : Host.Outcome State Fault Refusal :=
  runEvex (evexRow [.bitalg, .avx512vl] 256 16 0 true false .mergeZero) (fun _ _ => popcntOp 16 256) e rm s

/-- VPOPCNTW zmm1(k1)(z), zmm2/m512. -/
def execVpopcntw512 (e : Evex) (rm : Rm) (s : State) : Host.Outcome State Fault Refusal :=
  runEvex (evexRow [.bitalg] 512 16 0 true false .mergeZero) (fun _ _ => popcntOp 16 512) e rm s

/-- VPOPCNTD xmm1(k1)(z), xmm2/m128/m32bcst. -/
def execVpopcntd128 (e : Evex) (rm : Rm) (s : State) : Host.Outcome State Fault Refusal :=
  runEvex (evexRow [.vpopcntdq, .avx512vl] 128 32 4 true false .mergeZero) (fun _ _ => popcntOp 32 128) e rm s

/-- VPOPCNTD ymm1(k1)(z), ymm2/m256/m32bcst. -/
def execVpopcntd256 (e : Evex) (rm : Rm) (s : State) : Host.Outcome State Fault Refusal :=
  runEvex (evexRow [.vpopcntdq, .avx512vl] 256 32 4 true false .mergeZero) (fun _ _ => popcntOp 32 256) e rm s

/-- VPOPCNTD zmm1(k1)(z), zmm2/m512/m32bcst. -/
def execVpopcntd512 (e : Evex) (rm : Rm) (s : State) : Host.Outcome State Fault Refusal :=
  runEvex (evexRow [.vpopcntdq] 512 32 4 true false .mergeZero) (fun _ _ => popcntOp 32 512) e rm s

/-- VPOPCNTQ xmm1(k1)(z), xmm2/m128/m64bcst. -/
def execVpopcntq128 (e : Evex) (rm : Rm) (s : State) : Host.Outcome State Fault Refusal :=
  runEvex (evexRow [.vpopcntdq, .avx512vl] 128 64 8 true false .mergeZero) (fun _ _ => popcntOp 64 128) e rm s

/-- VPOPCNTQ ymm1(k1)(z), ymm2/m256/m64bcst. -/
def execVpopcntq256 (e : Evex) (rm : Rm) (s : State) : Host.Outcome State Fault Refusal :=
  runEvex (evexRow [.vpopcntdq, .avx512vl] 256 64 8 true false .mergeZero) (fun _ _ => popcntOp 64 256) e rm s

/-- VPOPCNTQ zmm1(k1)(z), zmm2/m512/m64bcst. -/
def execVpopcntq512 (e : Evex) (rm : Rm) (s : State) : Host.Outcome State Fault Refusal :=
  runEvex (evexRow [.vpopcntdq] 512 64 8 true false .mergeZero) (fun _ _ => popcntOp 64 512) e rm s

/-- VPSHUFBITQMB k1(k2), xmm2, xmm3/m128. -/
def execVpshufbitqmb128 (e : Evex) (rm : Rm) (s : State) : Host.Outcome State Fault Refusal :=
  runShufBit (evexRow [.bitalg, .avx512vl] 128 8 0 true true .opmask) e rm s

/-- VPSHUFBITQMB k1(k2), ymm2, ymm3/m256. -/
def execVpshufbitqmb256 (e : Evex) (rm : Rm) (s : State) : Host.Outcome State Fault Refusal :=
  runShufBit (evexRow [.bitalg, .avx512vl] 256 8 0 true true .opmask) e rm s

/-- VPSHUFBITQMB k1(k2), zmm2, zmm3/m512. -/
def execVpshufbitqmb512 (e : Evex) (rm : Rm) (s : State) : Host.Outcome State Fault Refusal :=
  runShufBit (evexRow [.bitalg] 512 8 0 true true .opmask) e rm s

end Sys2Proof.Machine
end

