-- ==== Sys2Proof/Machine/Cpuid.lean ====
section
/-! DEFINITION. CPUID (40_cpuid_instruction.md R220 to R239) and what every leaf returns (41_cpuid_leaves.md R250 to
R304): the table `cfg.cpuid`, with reserved fields 0, feature bits from `cfg.features`, and the fields the rules compute
from machine state. -/

namespace Sys2Proof.Machine

/-- The four output registers. -/
structure CpuidOut where
  eax : Word32
  ebx : Word32
  ecx : Word32
  edx : Word32
  deriving DecidableEq, Repr

/-- All four 0. -/
def CpuidOut.zero : CpuidOut := { eax := 0#32, ebx := 0#32, ecx := 0#32, edx := 0#32 }

/-- The table's entry for a leaf and a sub-leaf; 0 where it has none (R223, R224 (c), D19). -/
def cpuidTable (c : Cfg) (leaf sub : Nat) : CpuidOut :=
  match c.cpuid.find? fun e => e.leaf == BitVec.ofNat 32 leaf && e.subleaf == BitVec.ofNat 32 sub with
  | some e => { eax := e.eax, ebx := e.ebx, ecx := e.ecx, edx := e.edx }
  | none => CpuidOut.zero

/-- An entry with only these bits of each register. -/
def CpuidOut.masked (o : CpuidOut) (a b c d : Nat) : CpuidOut :=
  { eax := o.eax &&& BitVec.ofNat 32 a, ebx := o.ebx &&& BitVec.ofNat 32 b, ecx := o.ecx &&& BitVec.ofNat 32 c
    edx := o.edx &&& BitVec.ofNat 32 d }

/-- A value with one bit replaced. -/
def withBit (v : Word32) (n : Nat) (b : Bool) : Word32 :=
  (v &&& ~~~(1#32 <<< n)) ||| (if b then 1#32 <<< n else 0#32)

/-- A value with several bits replaced. -/
def withBits (v : Word32) (l : List (Nat × Bool)) : Word32 := l.foldl (fun v p => withBit v p.1 p.2) v

/-- All 32 bits. -/
def all32 : Nat := 0xFFFFFFFF

/-! ## Leaves with computed fields -/

/-- `cfg.cpuid_max_basic`, which behaves as 3 while IA32_MISC_ENABLE.BOOT_NT4 is 1 (R226). -/
def maxBasic (s : State) : Word32 := if bit s.msr.miscEnable 22 then 3#32 else s.cfg.cpuidMaxBasic

/-- Leaf 00H: the maximum and the vendor string (R250). -/
def leaf00 (s : State) : CpuidOut :=
  { eax := maxBasic s, ebx := 0x756E6547#32, ecx := 0x6C65746E#32, edx := 0x49656E69#32 }

/-- Is the brand index method not supported: with an instruction of Chapter 2, and from the processor signature (leaf 01H
EAX) family 0FH, model 03H on (R301)? Later signatures are the later models of family 0FH and the extended families
(DEDUCED, assumption 22). -/
def brandIndexGone (f : Features) (signature : Word32) : Bool :=
  anyChapter2 f || (signature.extractLsb' 8 4 == 0xF#4 &&
    (signature.extractLsb' 20 8 != 0#8 || signature.extractLsb' 16 4 != 0#4 || decide (3#4 ≤ signature.extractLsb' 4 4)))

/-- Is XSAVE supported, whatever the table says: OSXSAVE = 1 implies it (40_cpuid_instruction.md R232, footnote), and so do
the AVX and ZMM state that XCR0 enables (R277; 10_state.md R44; DEDUCED, assumption 22)? -/
def xsaveImplied (s : State) : Bool := bit s.sys.cr4 18 || s.cfg.features.avx512f || s.cfg.features.avx

/-- Leaf 01H: the CLFLUSH line in units of 8 bytes (`CLFLUSH_LINE`, R253), OSXSAVE from CR4, with it XSAVE (R232), AVX and
SSE from the features (R251 to R255); the brand index is 0 on a processor with an instruction of Chapter 2 or a signature
that supports none (R301). -/
def leaf01 (s : State) : CpuidOut :=
  let t := cpuidTable s.cfg 1 0
  let o := t.masked 0x0FFF3FFF (if brandIndexGone s.cfg.features t.eax then 0xFFFF0000 else 0xFFFF00FF)
    0x7FFEFFFF 0xBFEFFBFF
  { o with
    ebx := o.ebx ||| BitVec.ofNat 32 (s.cfg.clflushLine / 8 * 256)
    ecx := withBits o.ecx [(26, o.ecx.getLsbD 26 || xsaveImplied s), (27, bit s.sys.cr4 18), (28, s.cfg.features.avx)]
    edx := withBits o.edx [(25, s.cfg.features.sse)] }

/-- The first index from `i` on that is null, looking at no more than `n` indices. -/
def firstNull (isNull : Nat → Bool) : Nat → Nat → Nat
  | 0, i => i
  | n + 1, i => if isNull i then i else firstNull isNull n (i + 1)

/-- The first null index of a leaf whose valid indices are consecutive. A table of `n` rows has one among 0 to `n`, since
what it does not list is 0. -/
def endOfList (c : Cfg) (isNull : Nat → Bool) : Nat := firstNull isNull c.cpuid.length 0

/-- Leaf 03H: bits 63:0 of the processor serial number where the PSN flag (leaf 01H EDX[18]) is 1; all reserved on a
processor with an instruction of Chapter 2 (R259). -/
def leaf03 (s : State) : CpuidOut :=
  if (leaf01 s).edx.getLsbD 18 && !anyChapter2 s.cfg.features then (cpuidTable s.cfg 3 0).masked 0 0 all32 all32
  else CpuidOut.zero

/-- Leaf 04H: the deterministic cache parameters; 0 above the first index whose cache type is 0; EAX[31:26], the topology
of the package, is that of index 0 at every valid index (R261, R262, D19). An index of a reserved cache type, 4 to 31, counts
as valid and answers in the common layout, which the rule does not say (DESIGN CHOICE, assumption 22). -/
def leaf04 (s : State) (sub : Nat) : CpuidOut :=
  let row := fun i => (cpuidTable s.cfg 4 i).masked 0xFFFFC3FF all32 all32 7
  let k := endOfList s.cfg fun i => decide ((row i).eax &&& 0x1F#32 = 0#32)
  if sub < k then
    { row sub with eax := ((row sub).eax &&& 0x03FFFFFF#32) ||| ((row 0).eax &&& 0xFC000000#32) }
  else if sub = k then row k
  else CpuidOut.zero

/-- Leaf 05H: the monitor-line sizes (R263). -/
def leaf05 (s : State) : CpuidOut :=
  { (cpuidTable s.cfg 5 0).masked 0 0 3 all32 with
    eax := BitVec.ofNat 32 (s.cfg.monitorMin % 0x10000), ebx := BitVec.ofNat 32 (s.cfg.monitorMax % 0x10000) }

/-- CPUID.06H:EDX[1:0], the capabilities the hardware feedback interface reports (R266). -/
def hfiCapabilities (c : Cfg) : Word32 := (cpuidTable c 6 0).edx &&& 3#32

/-- Leaf 06H: the hardware feedback fields are 0 where EAX[19] is (R264 to R266); the size in pages minus one and the row
are those in force (52_hardware_feedback_interface.md R573). -/
def leaf06 (s : State) : CpuidOut :=
  let o := (cpuidTable s.cfg 6 0).masked 0x001FEFF7 0xF 0x9 0
  { o with
    eax := withBits o.eax [(19, s.cfg.features.hfi)]
    edx := if s.cfg.features.hfi then
        hfiCapabilities s.cfg ||| BitVec.ofNat 32 ((s.cfg.hfiPages - 1) * 0x100) |||
          BitVec.ofNat 32 (s.cfg.hfiRow * 0x10000)
      else 0#32 }

/-- Leaf 07H, sub-leaf 0: the feature flags and OSPKE from CR4.PKE; other sub-leaves are 0 (R236, R267, R270 to R272). -/
def leaf07 (s : State) (sub : Nat) : CpuidOut :=
  if sub = 0 then
    let o := (cpuidTable s.cfg 7 0).masked all32 0xFFBFFFBF 0x5A405F7F 0x0004001C
    let f := s.cfg.features
    { o with
      ebx := withBits o.ebx [(16, f.avx512f), (30, f.avx512bw), (31, f.avx512vl)]
      ecx := withBits o.ecx [(4, bit s.sys.cr4 22), (5, f.waitpkg), (6, f.vbmi2), (8, f.gfni), (9, f.vaes),
        (10, f.vpclmulqdq), (11, f.vnni), (12, f.bitalg), (14, f.vpopcntdq), (25, f.cldemote), (27, f.movdiri),
        (28, f.movdir64b)]
      edx := withBits o.edx [(18, f.pconfig)] }
  else CpuidOut.zero

/-- Leaf 0BH: ECX[7:0] is the input's, EDX does not depend on it; from the first input with level type 0 on the type,
EAX and EBX are 0 (R276). A sub-leaf of a reserved level type, 3 to 255, counts as valid and answers the table's row, which
the rule does not say (DESIGN CHOICE, assumption 22). -/
def leaf0B (s : State) (sub : Nat) : CpuidOut :=
  let row := fun i => (cpuidTable s.cfg 0xB i).masked 0x1F 0xFFFF 0xFF00 0
  let o := if sub < endOfList s.cfg (fun i => decide ((row i).ecx = 0#32)) then row sub else CpuidOut.zero
  { o with ecx := o.ecx ||| BitVec.ofNat 32 (sub % 256), edx := (cpuidTable s.cfg 0xB 0).edx }

/-- The state components every table must report in XCR0: those of EVEX where AVX512F is there, of VEX where AVX is
(R277; 10_state.md R44). -/
def xcr0Demanded (f : Features) : Word32 := if f.avx512f then 0xE6#32 else if f.avx then 0x06#32 else 0#32

/-- Leaf 0DH, sub-leaf 0: the bits that XCR0 may have, and the sizes (R277). Of bits 8 and 13 the rule says only "Used for
IA32_XSS": that EAX reports them as the table has them, although XCR0 holds them 0, is a DESIGN CHOICE (assumption 22). -/
def leaf0DMain (c : Cfg) : CpuidOut :=
  let o := (cpuidTable c 0xD 0).masked 0x23FF all32 all32 all32
  { o with eax := o.eax ||| xcr0Demanded c.features }

/-- Is state component `n` supported in XCR0: the bit of leaf 0DH, sub-leaf 0 (R277, R279)? A component 8 or 13 that EAX
reports counts as XCR0's, so ECX[0] of its sub-leaf is 0 (DESIGN CHOICE, assumption 22). -/
def xcr0Supports (c : Cfg) (n : Nat) : Bool :=
  if n < 32 then (leaf0DMain c).eax.getLsbD n else (leaf0DMain c).edx.getLsbD (n - 32)

/-- The bits of XCR0 that are not reserved: those leaf 0DH reports, but for bits 8 and 13, which are used for IA32_XSS
(10_state.md R43); for the two see `leaf0DMain`. -/
def xcr0Legal (c : Cfg) : Word64 := (leaf0DMain c).edx ++ ((leaf0DMain c).eax &&& 0x2FF#32)

/-- The bits of IA32_XSS that may be set: leaf 0DH, sub-leaf 1, ECX; EDX is reserved (R278). Of ECX[7:0] and ECX[9] the rule
says only "Used for XCR0": that they are the table's and that IA32_XSS takes them where they are 1 is a DESIGN CHOICE
(assumption 22). -/
def xssSupported (c : Cfg) : Word32 := (cpuidTable c 0xD 1).ecx &&& 0x23FF#32

/-- Leaf 0DH (R277 to R279). ECX[0] of a component's sub-leaf tells that IA32_XSS supports it and XCR0 does not. For a
component whose bit is 1 both in EAX of sub-leaf 0 and in ECX of sub-leaf 1 the two clauses of R279 on ECX[0] conflict: it
is 0 (DESIGN CHOICE, assumption 22). -/
def leaf0D (s : State) (sub : Nat) : CpuidOut :=
  let o := cpuidTable s.cfg 0xD sub
  if sub = 0 then leaf0DMain s.cfg
  else if sub = 1 then { o.masked 0xF all32 0 0 with ecx := xssSupported s.cfg }
  else if sub < 64 ∧ (xcr0Supports s.cfg sub ∨ (sub < 32 ∧ (xssSupported s.cfg).getLsbD sub)) then
    { o.masked all32 (if xcr0Supports s.cfg sub then all32 else 0) 0 0 with
      ecx := (o.ecx &&& 2#32) ||| (if xcr0Supports s.cfg sub then 0#32 else 1#32) }
  else CpuidOut.zero

/-- Leaf 0FH (R280). -/
def leaf0F (s : State) (sub : Nat) : CpuidOut :=
  let o := cpuidTable s.cfg 0xF sub
  if sub = 0 then o.masked 0 all32 0 2
  else if sub = 1 ∧ (cpuidTable s.cfg 0xF 0).edx.getLsbD 1 then o.masked 0 all32 all32 1
  else CpuidOut.zero

/-- Leaf 10H (R281). -/
def leaf10 (s : State) (sub : Nat) : CpuidOut :=
  let o := cpuidTable s.cfg 0x10 sub
  if sub = 0 then o.masked 0 2 0 0
  else if sub = 1 ∧ (cpuidTable s.cfg 0x10 0).ebx.getLsbD 1 then o.masked 0x1F all32 6 0xFFFF
  else CpuidOut.zero

/-- Leaf 12H, all 0 without SGX (R282 to R284). A sub-leaf of a reserved type, 2 to 15, answers the table's row in the
layout of type 1: R284 gives it no layout (DESIGN CHOICE, assumption 22). -/
def leaf12 (s : State) (sub : Nat) : CpuidOut :=
  let o := cpuidTable s.cfg 0x12 sub
  if (cpuidTable s.cfg 7 0).ebx.getLsbD 2 then
    if sub = 0 then o.masked 0x63 all32 0 0xFFFF
    else if sub = 1 then o
    else if o.eax &&& 0xF#32 = 0#32 then CpuidOut.zero
    else o.masked 0xFFFFF00F 0xFFFFF 0xFFFFF00F 0xFFFFF
  else CpuidOut.zero

/-- Leaf 14H (R285, R286). -/
def leaf14 (s : State) (sub : Nat) : CpuidOut :=
  let o := cpuidTable s.cfg 0x14 sub
  if sub = 0 then o.masked all32 0xF 0x8000000F 0
  else if sub = 1 ∧ 1 ≤ (cpuidTable s.cfg 0x14 0).eax.toNat then o.masked 0xFFFF0007 all32 0 0
  else CpuidOut.zero

/-- Leaf 17H (R289). Where MaxSOCID_Index is below 3 the leaf is not valid, and what it then returns is not stated: the
model answers the sub-leaves up to that index from the table all the same (DESIGN CHOICE, assumption 22). -/
def leaf17 (s : State) (sub : Nat) : CpuidOut :=
  let o := cpuidTable s.cfg 0x17 sub
  if sub = 0 then o.masked all32 0x1FFFF all32 all32
  else if sub ≤ 3 ∧ sub ≤ (cpuidTable s.cfg 0x17 0).eax.toNat then o
  else CpuidOut.zero

/-- Leaf 18H: a sub-leaf of type 0, or above the maximum that sub-leaf 0 gives in EAX, is not valid and returns 0; that
maximum stays (R290). A sub-leaf of a reserved type, above 3, counts as valid and answers in the common layout, which the
rule does not say (DESIGN CHOICE, assumption 22). -/
def leaf18 (s : State) (sub : Nat) : CpuidOut :=
  let o := cpuidTable s.cfg 0x18 sub
  let maximum : Word32 := if sub = 0 then o.eax else 0#32
  if sub ≤ (cpuidTable s.cfg 0x18 0).eax.toNat ∧ o.edx &&& 0x1F#32 ≠ 0#32 then
    { o.masked 0 0xFFFF070F all32 0x03FFC1FF with eax := maximum }
  else { CpuidOut.zero with eax := maximum }

/-- Leaf 1BH: the one PCONFIG target, MKTME (R297). -/
def leaf1B (s : State) (sub : Nat) : CpuidOut :=
  if s.cfg.features.pconfig ∧ s.cfg.mktmeTarget ∧ sub = 0 then { eax := 1#32, ebx := 1#32, ecx := 0#32, edx := 0#32 }
  else CpuidOut.zero

/-- Leaf 80000008H: the address sizes and WBNOINVD (R304). -/
def leafExt8 (s : State) : CpuidOut :=
  { eax := BitVec.ofNat 32 (s.cfg.maxPhyAddr % 256 + s.cfg.linAddrBits % 256 * 256)
    ebx := withBit 0#32 9 s.cfg.features.wbnoinvd, ecx := 0#32, edx := 0#32 }

/-! ## The answer -/

/-- The basic leaves; those the table does not define are 0 (R260). EDX[12:0] of leaf 0AH is defined only "if Version ID >
1" (R275): at Version ID 0 or 1 it is the table's too (DESIGN CHOICE, assumption 22). -/
def cpuidBasic (s : State) (leaf sub : Nat) : CpuidOut :=
  let o := cpuidTable s.cfg leaf
  match leaf with
  | 0x00 => leaf00 s
  | 0x01 => leaf01 s
  | 0x02 => o 0
  | 0x03 => leaf03 s
  | 0x04 => leaf04 s sub
  | 0x05 => leaf05 s
  | 0x06 => leaf06 s
  | 0x07 => leaf07 s sub
  | 0x09 => { CpuidOut.zero with eax := s.msr.platformDcaCap.setWidth 32 }
  | 0x0A => (o 0).masked all32 0x7F 0 0x1FFF
  | 0x0B => leaf0B s sub
  | 0x0D => leaf0D s sub
  | 0x0F => leaf0F s sub
  | 0x10 => leaf10 s sub
  | 0x12 => leaf12 s sub
  | 0x14 => leaf14 s sub
  | 0x15 => (o 0).masked all32 all32 all32 0
  | 0x16 => (o 0).masked 0xFFFF 0xFFFF 0xFFFF 0
  | 0x17 => leaf17 s sub
  | 0x18 => leaf18 s sub
  | 0x1B => leaf1B s sub
  | _ => CpuidOut.zero

/-- The extended leaves, by the number above 80000000H (R298 to R304). Every configuration can run 64-bit mode, so EDX[29]
of 80000001H is 1 (R299); the last byte of the brand string is NUL (R300). -/
def cpuidExt (s : State) (n : Nat) : CpuidOut :=
  let o := cpuidTable s.cfg (0x80000000 + n) 0
  match n with
  | 0 => { CpuidOut.zero with eax := s.cfg.cpuidMaxExt }
  | 1 => { o.masked all32 0 0x121 0x2C100800 with edx := (o.edx &&& 0x2C100800#32) ||| 0x20000000#32 }
  | 2 => o
  | 3 => o
  | 4 => o.masked all32 all32 all32 0x00FFFFFF
  | 6 => o.masked 0 0 0xFFFFF0FF 0
  | 7 => o.masked 0 0 0 0x100
  | 8 => leafExt8 s
  | _ => CpuidOut.zero

/-- `leaf_recognized` (R224). -/
def leafRecognized (s : State) (leaf : Word32) : Bool :=
  decide (leaf ≤ maxBasic s) || (decide (0x80000000#32 ≤ leaf) && decide (leaf ≤ s.cfg.cpuidMaxExt))

/-- The answer to a leaf and a sub-leaf: an unrecognized leaf is answered as the highest basic one, ECX honoured
(R223, R224). -/
def cpuidAnswer (s : State) (leaf sub : Word32) : CpuidOut :=
  let l := if leafRecognized s leaf then leaf else maxBasic s
  if 0x80000000#32 ≤ l then cpuidExt s (l.toNat - 0x80000000) else cpuidBasic s l.toNat sub.toNat

/-- The outputs, each zero-extended to 64 bits in every mode (R222). -/
def State.setCpuid (s : State) (o : CpuidOut) : State :=
  (((s.setGpr64 rax (o.eax.setWidth 64)).setGpr64 rbx (o.ebx.setWidth 64)).setGpr64 rcx (o.ecx.setWidth 64)).setGpr64
    rdx (o.edx.setWidth 64)

/-- IA32_BIOS_SIGN_ID[63:32] becomes the microcode revision (R228). -/
def State.loadBiosSign (s : State) : State :=
  { s with msr := { s.msr with biosSignId := s.cfg.microcodeRevision ++ s.msr.biosSignId.setWidth 32 } }

/-- CPUID (R223): #UD under LOCK; the microcode revision, the answer, serialization (R227). -/
def execCpuid (p : Pfx) (s : State) : Host.Outcome State Fault Refusal :=
  finish do
    check s (!p.forbidden) .ud
    let o := cpuidAnswer s (s.gpr32 rax) (s.gpr32 rcx)
    pure (s.loadBiosSign.setCpuid o).serialize.complete

end Sys2Proof.Machine
end

