-- ==== Sys2Proof/Machine/Direct.lean ====
section
/-! DEFINITION. CLDEMOTE, MOVDIRI, MOVDIR64B and WBNOINVD (42_cldemote_movdir_wbnoinvd.md R320 to R336). The direct
stores write memory directly: their cache treatment and their order for other observers are not visible to one logical
processor (20_memory.md R108, R121, R127). -/

namespace Sys2Proof.Machine

/-- The page of an address may have its accessed flag set, at the processor's choice (R323; 93_implementation_defined.md U2).
The rule says only that CLDEMOTE may set the A bit: that it does so on no page but one where a read at the current CPL is
permitted is a DESIGN CHOICE (assumption 43). -/
def State.mayTouch (s : State) (la : Word64) : State :=
  match translate s .read la with
  | .error _ => s
  | .ok (_, t) => { s with paging := if s.anyBool then t.paging else s.paging, draws := s.draws + 1 }

/-- CLDEMOTE: #UD under LOCK, else the advance of RIP, and where the feature and paging are there a page's accessed flag
that may be set; a NOP without the feature (R321 to R323). -/
def execCldemote (p : Pfx) (m : Mem) (s : State) : Host.Outcome State Fault Refusal :=
  finish do
    check s (!p.forbidden) .ud
    let t := if s.cfg.features.cldemote && s.pages.isSome then
        s.mayTouch (linearAddress s (memSeg s p m) (memOff s p 1 m))
      else s
    pure t.complete

/-- The `n` low bytes of a 64-bit value, lowest first (20_memory.md R100). -/
def bytesOf64 (v : Word64) (n : Nat) : List Byte := (List.range n).map fun i => v.extractLsb' (8 * i) 8

/-- The destination access of MOVDIRI: #AC checks alignment to its size (20_memory.md R106, R107). -/
def Access.direct (n : Nat) : Access := { Access.store with acAlign := n }

/-- The common course of both MOVDIRI rows: `n` low bytes of the register are stored (R327, R329). -/
def movdiri (n : Nat) (p : Pfx) (r : GReg) (m : Mem) (s : State) : Host.Outcome State Fault Refusal :=
  finish do
    check s (!p.forbidden && s.cfg.features.movdiri) .ud
    let t ← writeMem s (Access.direct n) (memSeg s p m) (memOff s p 1 m) (bytesOf64 (s.gpr64 r) n)
    pure t.complete

/-- MOVDIRI m32, r32 (R325, R327). -/
def execMovdiri32 (p : Pfx) (r : GReg) (m : Mem) (s : State) : Host.Outcome State Fault Refusal := movdiri 4 p r m s

/-- MOVDIRI m64, r64 (R325, R327). -/
def execMovdiri64 (p : Pfx) (r : GReg) (m : Mem) (s : State) : Host.Outcome State Fault Refusal := movdiri 8 p r m s

/-- The destination access of MOVDIR64B: 64-byte aligned or #GP (20_memory.md R106). -/
def Access.direct64 : Access := { Access.store with gpAlign := 64 }

/-- MOVDIR64B: all 64 source bytes are read, then stored at ES:reg, whose offset has the address size and no segment
override (R326, R334, R336). -/
def execMovdir64b (p : Pfx) (r : GReg) (m : Mem) (s : State) : Host.Outcome State Fault Refusal :=
  finish do
    check s (!p.forbidden && s.cfg.features.movdir64b) .ud
    let (bs, t) ← readMem s Access.load (memSeg s p m) (memOff s p 1 m) 64
    let u ← writeMem t Access.direct64 .es (s.gprAddr (s.addrSize p) r) bs
    pure u.complete

/-- WBNOINVD: privileged and serializing; the model has no cache state (R330 to R332). -/
def execWbnoinvd (p : Pfx) (s : State) : Host.Outcome State Fault Refusal :=
  finish do
    check s (!p.forbidden) .ud
    if !s.cfg.features.wbnoinvd then .error (.refused .wbnoinvdAbsent)
    else do
      check s (decide (s.mode ≠ .v86)) .gp
      check s (decide (s.cpl = 0)) .gp
      pure s.serialize.complete

end Sys2Proof.Machine
end

