-- ==== Sys2Proof/Machine/Gfni.lean ====
section
/-! DEFINITION. GF2P8AFFINEQB, GF2P8AFFINEINVQB, GF2P8MULB (43_gfni.md R345 to R351): one meaning per row. x comes from
vvvv (from the destination in the SSE forms), the matrix from r/m; masking is per byte; only GF2P8MULB's EVEX forms
suppress memory faults. -/

namespace Sys2Proof.Machine

/-- Byte by byte product (R350). -/
def gf2p8mulOp (vl : Nat) (x y : Vec) : Vec := lanes 8 (vl / 8) fun j => gf2p8mul (elem 8 x j) (elem 8 y j)

/-- The affine transformation of every byte of `x` by the matrix in the same quadword of `a` (R346). -/
def affineOp (vl : Nat) (imm : Byte) (x a : Vec) : Vec :=
  lanes 8 (vl / 8) fun j => affineByte (elem 64 a (j / 8)) (elem 8 x j) imm

/-- The affine transformation of the inverse of every byte (R348). -/
def affineInvOp (vl : Nat) (imm : Byte) (x a : Vec) : Vec :=
  lanes 8 (vl / 8) fun j => affineInverseByte (elem 64 a (j / 8)) (elem 8 x j) imm

/-- GF2P8AFFINEQB xmm1, xmm2/m128, imm8. -/
def execGf2p8affineqb (p : Pfx) (r : GReg) (rm : Rm) (imm : Byte) (s : State) : Host.Outcome State Fault Refusal :=
  runSse (sseRow [.gfni]) (affineOp 128 imm) p r rm s

/-- VGF2P8AFFINEQB xmm1, xmm2, xmm3/m128, imm8. -/
def execVgf2p8affineqbVex128 (v : Vex) (rm : Rm) (imm : Byte) (s : State) : Host.Outcome State Fault Refusal :=
  runVex (vexRow [.avx, .gfni] 128) (affineOp 128 imm) v rm s

/-- VGF2P8AFFINEQB ymm1, ymm2, ymm3/m256, imm8. -/
def execVgf2p8affineqbVex256 (v : Vex) (rm : Rm) (imm : Byte) (s : State) : Host.Outcome State Fault Refusal :=
  runVex (vexRow [.avx, .gfni] 256) (affineOp 256 imm) v rm s

/-- VGF2P8AFFINEQB xmm1(k1)(z), xmm2, xmm3/m128/m64bcst, imm8. -/
def execVgf2p8affineqb128 (e : Evex) (rm : Rm) (imm : Byte) (s : State) : Host.Outcome State Fault Refusal :=
  runEvex (evexRow [.avx512vl, .gfni] 128 8 8 false true .mergeZero) (fun _ => affineOp 128 imm) e rm s

/-- VGF2P8AFFINEQB ymm1(k1)(z), ymm2, ymm3/m256/m64bcst, imm8. -/
def execVgf2p8affineqb256 (e : Evex) (rm : Rm) (imm : Byte) (s : State) : Host.Outcome State Fault Refusal :=
  runEvex (evexRow [.avx512vl, .gfni] 256 8 8 false true .mergeZero) (fun _ => affineOp 256 imm) e rm s

/-- VGF2P8AFFINEQB zmm1(k1)(z), zmm2, zmm3/m512/m64bcst, imm8. -/
def execVgf2p8affineqb512 (e : Evex) (rm : Rm) (imm : Byte) (s : State) : Host.Outcome State Fault Refusal :=
  runEvex (evexRow [.avx512f, .gfni] 512 8 8 false true .mergeZero) (fun _ => affineOp 512 imm) e rm s

/-- GF2P8AFFINEINVQB xmm1, xmm2/m128, imm8. -/
def execGf2p8affineinvqb (p : Pfx) (r : GReg) (rm : Rm) (imm : Byte) (s : State) : Host.Outcome State Fault Refusal :=
  runSse (sseRow [.gfni]) (affineInvOp 128 imm) p r rm s

/-- VGF2P8AFFINEINVQB xmm1, xmm2, xmm3/m128, imm8. -/
def execVgf2p8affineinvqbVex128 (v : Vex) (rm : Rm) (imm : Byte) (s : State) : Host.Outcome State Fault Refusal :=
  runVex (vexRow [.avx, .gfni] 128) (affineInvOp 128 imm) v rm s

/-- VGF2P8AFFINEINVQB ymm1, ymm2, ymm3/m256, imm8. -/
def execVgf2p8affineinvqbVex256 (v : Vex) (rm : Rm) (imm : Byte) (s : State) : Host.Outcome State Fault Refusal :=
  runVex (vexRow [.avx, .gfni] 256) (affineInvOp 256 imm) v rm s

/-- VGF2P8AFFINEINVQB xmm1(k1)(z), xmm2, xmm3/m128/m64bcst, imm8. -/
def execVgf2p8affineinvqb128 (e : Evex) (rm : Rm) (imm : Byte) (s : State) : Host.Outcome State Fault Refusal :=
  runEvex (evexRow [.avx512vl, .gfni] 128 8 8 false true .mergeZero) (fun _ => affineInvOp 128 imm) e rm s

/-- VGF2P8AFFINEINVQB ymm1(k1)(z), ymm2, ymm3/m256/m64bcst, imm8. -/
def execVgf2p8affineinvqb256 (e : Evex) (rm : Rm) (imm : Byte) (s : State) : Host.Outcome State Fault Refusal :=
  runEvex (evexRow [.avx512vl, .gfni] 256 8 8 false true .mergeZero) (fun _ => affineInvOp 256 imm) e rm s

/-- VGF2P8AFFINEINVQB zmm1(k1)(z), zmm2, zmm3/m512/m64bcst, imm8. -/
def execVgf2p8affineinvqb512 (e : Evex) (rm : Rm) (imm : Byte) (s : State) : Host.Outcome State Fault Refusal :=
  runEvex (evexRow [.avx512f, .gfni] 512 8 8 false true .mergeZero) (fun _ => affineInvOp 512 imm) e rm s

/-- GF2P8MULB xmm1, xmm2/m128. -/
def execGf2p8mulb (p : Pfx) (r : GReg) (rm : Rm) (s : State) : Host.Outcome State Fault Refusal :=
  runSse (sseRow [.gfni]) (gf2p8mulOp 128) p r rm s

/-- VGF2P8MULB xmm1, xmm2, xmm3/m128. -/
def execVgf2p8mulbVex128 (v : Vex) (rm : Rm) (s : State) : Host.Outcome State Fault Refusal :=
  runVex (vexRow [.avx, .gfni] 128) (gf2p8mulOp 128) v rm s

/-- VGF2P8MULB ymm1, ymm2, ymm3/m256. -/
def execVgf2p8mulbVex256 (v : Vex) (rm : Rm) (s : State) : Host.Outcome State Fault Refusal :=
  runVex (vexRow [.avx, .gfni] 256) (gf2p8mulOp 256) v rm s

/-- VGF2P8MULB xmm1(k1)(z), xmm2, xmm3/m128. -/
def execVgf2p8mulb128 (e : Evex) (rm : Rm) (s : State) : Host.Outcome State Fault Refusal :=
  runEvex (evexRow [.avx512vl, .gfni] 128 8 0 true true .mergeZero) (fun _ => gf2p8mulOp 128) e rm s

/-- VGF2P8MULB ymm1(k1)(z), ymm2, ymm3/m256. -/
def execVgf2p8mulb256 (e : Evex) (rm : Rm) (s : State) : Host.Outcome State Fault Refusal :=
  runEvex (evexRow [.avx512vl, .gfni] 256 8 0 true true .mergeZero) (fun _ => gf2p8mulOp 256) e rm s

/-- VGF2P8MULB zmm1(k1)(z), zmm2, zmm3/m512. -/
def execVgf2p8mulb512 (e : Evex) (rm : Rm) (s : State) : Host.Outcome State Fault Refusal :=
  runEvex (evexRow [.avx512f, .gfni] 512 8 0 true true .mergeZero) (fun _ => gf2p8mulOp 512) e rm s

end Sys2Proof.Machine
end

