-- ==== Sys2Proof/Machine/Flags.lean ====
section
/-! DEFINITION. The status flags (10_state.md R36, R37): their places in RFLAGS and the two flag results of the spec,
that of PCONFIG (44_pconfig.md R361) and that of TPAUSE and UMWAIT (45_waitpkg.md R381, R385, R388). -/

namespace Sys2Proof.Machine

/-- CF is bit 0 (R36). -/
def flagCF : Nat := 0
/-- PF is bit 2. -/
def flagPF : Nat := 2
/-- AF is bit 4. -/
def flagAF : Nat := 4
/-- ZF is bit 6. -/
def flagZF : Nat := 6
/-- SF is bit 7. -/
def flagSF : Nat := 7
/-- OF is bit 11. -/
def flagOF : Nat := 11

/-- CF, PF, AF, ZF, SF and OF as a mask. -/
def statusMask : Word64 := 0x8D5#64

/-- One flag as a mask. -/
def flagBit (n : Nat) (v : Bool) : Word64 := if v then 1#64 <<< n else 0#64

/-- RFLAGS with the six status flags cleared but for the given ones. -/
def withStatus (f : Word64) (cf zf : Bool) : Word64 := (f &&& ~~~statusMask) ||| flagBit flagCF cf ||| flagBit flagZF zf

/-- PCONFIG: ZF tells failure; CF, PF, AF, OF, SF are cleared (R361). -/
def pconfigFlags (f : Word64) (failed : Bool) : Word64 := withStatus f false failed

/-- TPAUSE and UMWAIT: CF tells the OS time limit; AF, PF, SF, ZF, OF are cleared (R381, R385). -/
def waitFlags (f : Word64) (cf : Bool) : Word64 := withStatus f cf false

/-- A failed VM entry sets ZF; the other five status flags are not stated: a free value (R37; 50 R520). -/
def vmFailFlags (f free : Word64) : Word64 :=
  (f &&& ~~~statusMask) ||| (free &&& statusMask) ||| flagBit flagZF true

end Sys2Proof.Machine
end

