-- ==== Sys2Proof/Machine/Pconfig.lean ====
section
/-! DEFINITION. PCONFIG and its one leaf, MKTME_KEY_PROGRAM (44_pconfig.md R360 to R369; 10_state.md R58, R66 to R68). -/

namespace Sys2Proof.Machine

/-! ## The key table (10_state.md R66) -/

/-- The entry of a KeyID on MKTME activation: it uses the platform TME key. -/
def KeySlot.initial : KeySlot := { dataKey := 0#128, tweakKey := 0#128, mode := .encryptWithTmeKey }

/-- The entry of a KeyID. -/
def keySlot (t : List (Nat × KeySlot)) (id : Nat) : KeySlot :=
  match t.find? fun e => e.1 == id with
  | some e => e.2
  | none => KeySlot.initial

/-- An entry put at its place in a rising list. -/
def keyInsert : List (Nat × KeySlot) → Nat → KeySlot → List (Nat × KeySlot)
  | [], i, k => [(i, k)]
  | (j, c) :: t, i, k => if i < j then (i, k) :: (j, c) :: t else (j, c) :: keyInsert t i k

/-- The table with one entry replaced; entries as on activation are not listed. -/
def setKeySlot (t : List (Nat × KeySlot)) (id : Nat) (k : KeySlot) : List (Nat × KeySlot) :=
  let u := t.filter fun e => e.1 != id
  if k = KeySlot.initial then u else keyInsert u id k

/-! ## MKTME_KEY_PROGRAM_STRUCT (R364) -/

/-- A little-endian field of the structure. -/
def structField (bs : List Byte) (off n : Nat) : Nat := bytesValue ((bs.drop off).take n)

/-- KEYID: bytes 0 and 1. -/
def structKeyId (bs : List Byte) : Nat := structField bs 0 2
/-- COMMAND: byte 2. -/
def structCommand (bs : List Byte) : Nat := structField bs 2 1
/-- ENC_ALG: bytes 3 and 4. -/
def structEncAlg (bs : List Byte) : BitVec 16 := BitVec.ofNat 16 (structField bs 3 2)
/-- KEY_FIELD_1, its 16 low bytes. -/
def structDataKey (bs : List Byte) : BitVec 128 := BitVec.ofNat 128 (structField bs 64 16)
/-- KEY_FIELD_2, its 16 low bytes. -/
def structTweakKey (bs : List Byte) : BitVec 128 := BitVec.ofNat 128 (structField bs 128 16)

/-- The reserved bytes are zero: 6 to 63, 5, 80 to 127, 144 to 191 (R365). -/
def structReservedClear (bs : List Byte) : Bool :=
  structField bs 6 58 == 0 && structField bs 5 1 == 0 && structField bs 80 48 == 0 && structField bs 144 48 == 0

/-! ## Return values (R361, R366) -/

/-- Table 2-5. -/
inductive PconfigStatus | success | invalidProgCmd | entropyError | invalidKeyId | invalidEncAlg | deviceBusy
  deriving DecidableEq, Repr

/-- The encoding of a status in RAX. -/
def PconfigStatus.code : PconfigStatus → Nat
  | .success => 0 | .invalidProgCmd => 1 | .entropyError => 2 | .invalidKeyId => 3 | .invalidEncAlg => 4
  | .deviceBusy => 5

/-- The result in RAX (EAX outside 64-bit mode) and the six status flags (R361). -/
def pconfigEnd (s : State) (st : PconfigStatus) : State :=
  let t := if s.is64 then s.setGpr64 rax (BitVec.ofNat 64 st.code) else s.setGpr32 rax (BitVec.ofNat 32 st.code)
  (t.setRflags (pconfigFlags s.rflags (decide (st ≠ .success)))).complete

/-- The tests that answer with a status before the lock is tried, in their order (R366). -/
def pconfigRefusal (s : State) (bs : List Byte) : Option PconfigStatus :=
  if 3 < structCommand bs then some .invalidProgCmd
  else if 2 ^ s.msr.mkTmeKeyidBits - 1 < structKeyId bs ∨ s.msr.mkTmeMaxKeys < structKeyId bs ∨ structKeyId bs = 0 then
    some .invalidKeyId
  else if popcount16 (structEncAlg bs) ≠ 1 ∨ structEncAlg bs &&& s.msr.mkTmeCryptoAlgs = 0#16 then some .invalidEncAlg
  else none
where
  /-- `NUM_BITS`. -/
  popcount16 (v : BitVec 16) : Nat := popcnt v

/-- `KEY_TABLE_LOCK.ACQUIRE(WRITE)`: it fails while another logical processor holds the lock; where there are several
it may fail at any time (R366, R368, D37). -/
def acquireKeyTable (s : State) : Bool × State :=
  if s.keyTableLock = .exclusive then (false, s)
  else if s.cfg.logicalProcessors ≤ 1 then (true, s)
  else (s.anyBool, s.drawn)

/-- One draw of the hardware random number generator (10_state.md R68). -/
def State.entropy (s : State) : Option (BitVec 128) := Config.drawEntropy s.draws

/-- The key table after a write of one entry. -/
def State.setKey (s : State) (id : Nat) (k : KeySlot) : State := { s with keyTable := setKeySlot s.keyTable id k }

/-- The table update under the lock, which every path releases (R367, D15). -/
def pconfigProgram (s : State) (bs : List Byte) : State :=
  let id := structKeyId bs
  match structCommand bs with
  | 0 =>
    pconfigEnd (s.setKey id { dataKey := structDataKey bs, tweakKey := structTweakKey bs, mode := .encryptWithKeyidKey })
      .success
  | 1 =>
    match s.entropy with
    | none => pconfigEnd s.drawn .entropyError
    | some r1 =>
      match s.drawn.entropy with
      | none => pconfigEnd s.drawn.drawn .entropyError
      | some r2 =>
        pconfigEnd (s.drawn.drawn.setKey id
          { dataKey := r1 ^^^ structDataKey bs, tweakKey := r2 ^^^ structTweakKey bs, mode := .encryptWithKeyidKey })
          .success
  | 2 => pconfigEnd (s.setKey id KeySlot.initial) .success
  | _ => pconfigEnd (s.setKey id { keySlot s.keyTable id with mode := .noEncryption }) .success

/-- The leaf once its structure is read and its reserved bytes are zero (R366, R367). -/
def pconfigKeyProgram (s : State) (bs : List Byte) : State :=
  match pconfigRefusal s bs with
  | some st => pconfigEnd s st
  | none =>
    match acquireKeyTable s with
    | (false, t) => pconfigEnd t .deviceBusy
    | (true, t) => pconfigProgram t bs

/-! ## The instruction (R365) -/

/-- No cause of #UD: prefixes, virtual-8086 mode, the feature, CPL, PCONFIG_ENABLE (R360, R365). -/
def pconfigLegal (p : Pfx) (s : State) : Bool :=
  !p.forbidden && decide (s.mode ≠ .v86) && s.cfg.features.pconfig && decide (s.cpl = 0) &&
    (decide (s.vmx.mode ≠ .nonRoot) || s.vmx.vmcs.pconfigEnable)

/-- Does PCONFIG_EXITING call for a VM exit: bit min(EAX, 63) in VMX non-root operation (R363, D35)? -/
def pconfigExits (s : State) : Bool :=
  decide (s.vmx.mode = .nonRoot) && bit s.vmx.vmcs.pconfigExiting (min (s.gpr32 rax).toNat 63)

/-- Leaf 0 on a part with the MKTME target, with TME locked and enabled and KeyID bits (R365). -/
def pconfigReady (s : State) : Bool :=
  decide (s.gpr32 rax = 0#32) && s.cfg.mktmeTarget && s.msr.tmeLock && s.msr.tmeEnable &&
    decide (s.msr.mkTmeKeyidBits ≠ 0)

/-- The offset of the structure in DS: RBX in 64-bit mode, else EBX whatever CS.D is (R362). -/
def pconfigBase (s : State) : Word64 := if s.is64 then s.gpr64 rbx else (s.gpr32 rbx).setWidth 64

/-- PCONFIG (R360 to R369). Segment overrides and 67H have no effect (D36). -/
def execPconfig (p : Pfx) (s : State) : Host.Outcome State Fault Refusal :=
  finish do
    check s (pconfigLegal p s) .ud
    if pconfigExits s then .error (.exit (s.vmExit .pconfig 0#64))
    else do
      check s (pconfigReady s) .gp
      check s (decide ((pconfigBase s).setWidth 8 = 0#8)) .gp
      let (bs, t) ← readMem s Access.load .ds (pconfigBase s) 192
      check s (structReservedClear bs) .gp
      pure (pconfigKeyProgram t bs)

end Sys2Proof.Machine
end

