-- ==== Sys2Proof/Machine/Vbmi2.lean ====
section
/-! DEFINITION. AVX512_VBMI2 (47_vbmi2.md R420 to R440): VPCOMPRESSB/W, VPEXPANDB/W and the concatenate-and-shift
family VPSHLD, VPSHLDV, VPSHRD, VPSHRDV. -/

namespace Sys2Proof.Machine

/-! ## Compress and expand (R421 to R427) -/

/-- The active positions below KL, rising. -/
def activeList (r : VecRow) (act : Nat → Bool) : List Nat := (List.range r.kl).filter act

/-- How many elements are active. -/
def activeCount (r : VecRow) (act : Nat → Bool) : Nat := (activeList r act).length

/-- The position of element `j` among the active elements: the number of active elements below it. -/
def rankOf (act : Nat → Bool) (j : Nat) : Nat := ((List.range j).filter act).length

/-- The active elements of the source packed at the low end; above them 0 (R422). -/
def packed (r : VecRow) (act : Nat → Bool) (src : Vec) : Vec :=
  let l := activeList r act
  lanes r.esz r.kl fun k => if k < l.length then elem r.esz src (l.getD k 0) else 0

/-- Consecutive source elements at the active positions; elsewhere 0 (R426). -/
def expanded (r : VecRow) (act : Nat → Bool) (src : Vec) : Vec :=
  lanes r.esz r.kl fun j => if act j then elem r.esz src (rankOf act j) else 0

/-- Compress to a register: the destination is ModRM.r/m, the source ModRM.reg; from the count on the old elements are
kept or zeroed (R423). -/
def runCompressReg (r : VecRow) (e : Evex) (dst : VReg) (s : State) : Host.Outcome State Fault Refusal :=
  finish do
    vecReady s r (evexLegal r e false)
    let act := active s e.aaa
    let res := packed r act (s.vec e.reg)
    pure (s.setVec dst (maskMerge r (fun k => decide (k < activeCount r act)) e.z (s.vec dst) res)).complete

/-- Compress to memory: exactly the packed elements are written, in one write that may be treated as one of several
writes of one instruction; none if no element is active (R424, 50 R512). -/
def runCompressMem (r : VecRow) (e : Evex) (m : Mem) (s : State) : Host.Outcome State Fault Refusal :=
  finish do
    vecReady s r (evexLegal r e true)
    let act := active s e.aaa
    let n := activeCount r act * (r.esz / 8)
    if n = 0 then pure s.complete
    else do
      let a := { Access.store with multiWrite := true }
      let t ← writeMem s a (memSeg s e.pfx m) (memOff s e.pfx r.disp8 m) (bytesOfVec (packed r act (s.vec e.reg)) n)
      pure t.complete

/-- Expand from a register (R426). -/
def runExpandReg (r : VecRow) (e : Evex) (src : VReg) (s : State) : Host.Outcome State Fault Refusal :=
  finish do
    vecReady s r (evexLegal r e false)
    let act := active s e.aaa
    pure (s.setVec e.reg (maskMerge r act e.z (s.vec e.reg) (expanded r act (s.vec src)))).complete

/-- Expand from memory: exactly as many elements are read as are active, one after the other from the operand's address on,
no access if none is (R427). Of several faulting elements the lowest is reported (60_exceptions.md R614, R615, D22). -/
def runExpandMem (r : VecRow) (e : Evex) (m : Mem) (s : State) : Host.Outcome State Fault Refusal :=
  finish do
    vecReady s r (evexLegal r e true)
    let act := active s e.aaa
    let (bs, t) ← readElems s (memSeg s e.pfx m) (memOff s e.pfx r.disp8 m) (r.esz / 8) (fun _ => true)
      (activeCount r act) 0
    pure (t.setVec e.reg (maskMerge r act e.z (s.vec e.reg) (expanded r act (vecOfBytes bs)))).complete

/-- The row of a compress or expand form: vvvv unused, no broadcast, N one element (R421, R425). -/
def packRow (cell : List Feature) (vl esz : Nat) (masking : Masking) : VecRow :=
  { cell := cell, form := .evex, vl := vl, esz := esz, bcast := 0, disp8 := esz / 8, suppress := true, nds := false
    masking := masking }

/-! ## Concatenate and shift (R430 to R440) -/

/-- The high half of `(a ++ b) << (c AND (w-1))` (R430). -/
def shld {w : Nat} (a b : BitVec w) (c : Nat) : BitVec w := ((a ++ b) <<< (c % w)).extractLsb' w w

/-- The low half of `(hi ++ lo) >> (c AND (w-1))` (R430). -/
def shrd {w : Nat} (hi lo : BitVec w) (c : Nat) : BitVec w := ((hi ++ lo) >>> (c % w)).extractLsb' 0 w

/-- VPSHLD: vvvv high, r/m low, the count from the immediate (R433). -/
def shldOp (w vl : Nat) (imm : Byte) (x y : Vec) : Vec :=
  lanes w (vl / w) fun j => shld (elem w x j) (elem w y j) imm.toNat

/-- VPSHLDV: the old destination high, vvvv low, the count from r/m (R435). -/
def shldvOp (w vl : Nat) (old x y : Vec) : Vec :=
  lanes w (vl / w) fun j => shld (elem w old j) (elem w x j) (elem w y j).toNat

/-- VPSHRD: r/m high, vvvv low, the count from the immediate (R437). -/
def shrdOp (w vl : Nat) (imm : Byte) (x y : Vec) : Vec :=
  lanes w (vl / w) fun j => shrd (elem w y j) (elem w x j) imm.toNat

/-- VPSHRDV: vvvv high, the old destination low, the count from r/m (R439). -/
def shrdvOp (w vl : Nat) (old x y : Vec) : Vec :=
  lanes w (vl / w) fun j => shrd (elem w x j) (elem w old j) (elem w y j).toNat

/-- VPCOMPRESSB m128(k1), xmm1. -/
def execVpcompressbMem128 (e : Evex) (m : Mem) (s : State) : Host.Outcome State Fault Refusal :=
  runCompressMem (packRow [.vbmi2, .avx512vl] 128 8 .mergeOnly) e m s

/-- VPCOMPRESSB xmm1(k1)(z), xmm2. -/
def execVpcompressbReg128 (e : Evex) (r : VReg) (s : State) : Host.Outcome State Fault Refusal :=
  runCompressReg (packRow [.vbmi2, .avx512vl] 128 8 .mergeZero) e r s

/-- VPCOMPRESSB m256(k1), ymm1. -/
def execVpcompressbMem256 (e : Evex) (m : Mem) (s : State) : Host.Outcome State Fault Refusal :=
  runCompressMem (packRow [.vbmi2, .avx512vl] 256 8 .mergeOnly) e m s

/-- VPCOMPRESSB ymm1(k1)(z), ymm2. -/
def execVpcompressbReg256 (e : Evex) (r : VReg) (s : State) : Host.Outcome State Fault Refusal :=
  runCompressReg (packRow [.vbmi2, .avx512vl] 256 8 .mergeZero) e r s

/-- VPCOMPRESSB m512(k1), zmm1. -/
def execVpcompressbMem512 (e : Evex) (m : Mem) (s : State) : Host.Outcome State Fault Refusal :=
  runCompressMem (packRow [.vbmi2] 512 8 .mergeOnly) e m s

/-- VPCOMPRESSB zmm1(k1)(z), zmm2. -/
def execVpcompressbReg512 (e : Evex) (r : VReg) (s : State) : Host.Outcome State Fault Refusal :=
  runCompressReg (packRow [.vbmi2] 512 8 .mergeZero) e r s

/-- VPCOMPRESSW m128(k1), xmm1. -/
def execVpcompresswMem128 (e : Evex) (m : Mem) (s : State) : Host.Outcome State Fault Refusal :=
  runCompressMem (packRow [.vbmi2, .avx512vl] 128 16 .mergeOnly) e m s

/-- VPCOMPRESSW xmm1(k1)(z), xmm2. -/
def execVpcompresswReg128 (e : Evex) (r : VReg) (s : State) : Host.Outcome State Fault Refusal :=
  runCompressReg (packRow [.vbmi2, .avx512vl] 128 16 .mergeZero) e r s

/-- VPCOMPRESSW m256(k1), ymm1. -/
def execVpcompresswMem256 (e : Evex) (m : Mem) (s : State) : Host.Outcome State Fault Refusal :=
  runCompressMem (packRow [.vbmi2, .avx512vl] 256 16 .mergeOnly) e m s

/-- VPCOMPRESSW ymm1(k1)(z), ymm2. -/
def execVpcompresswReg256 (e : Evex) (r : VReg) (s : State) : Host.Outcome State Fault Refusal :=
  runCompressReg (packRow [.vbmi2, .avx512vl] 256 16 .mergeZero) e r s

/-- VPCOMPRESSW m512(k1), zmm1. -/
def execVpcompresswMem512 (e : Evex) (m : Mem) (s : State) : Host.Outcome State Fault Refusal :=
  runCompressMem (packRow [.vbmi2] 512 16 .mergeOnly) e m s

/-- VPCOMPRESSW zmm1(k1)(z), zmm2. -/
def execVpcompresswReg512 (e : Evex) (r : VReg) (s : State) : Host.Outcome State Fault Refusal :=
  runCompressReg (packRow [.vbmi2] 512 16 .mergeZero) e r s

/-- VPEXPANDB xmm1(k1)(z), m128. -/
def execVpexpandbMem128 (e : Evex) (m : Mem) (s : State) : Host.Outcome State Fault Refusal :=
  runExpandMem (packRow [.vbmi2, .avx512vl] 128 8 .mergeZero) e m s

/-- VPEXPANDB xmm1(k1)(z), xmm2. -/
def execVpexpandbReg128 (e : Evex) (r : VReg) (s : State) : Host.Outcome State Fault Refusal :=
  runExpandReg (packRow [.vbmi2, .avx512vl] 128 8 .mergeZero) e r s

/-- VPEXPANDB ymm1(k1)(z), m256. -/
def execVpexpandbMem256 (e : Evex) (m : Mem) (s : State) : Host.Outcome State Fault Refusal :=
  runExpandMem (packRow [.vbmi2, .avx512vl] 256 8 .mergeZero) e m s

/-- VPEXPANDB ymm1(k1)(z), ymm2. -/
def execVpexpandbReg256 (e : Evex) (r : VReg) (s : State) : Host.Outcome State Fault Refusal :=
  runExpandReg (packRow [.vbmi2, .avx512vl] 256 8 .mergeZero) e r s

/-- VPEXPANDB zmm1(k1)(z), m512. -/
def execVpexpandbMem512 (e : Evex) (m : Mem) (s : State) : Host.Outcome State Fault Refusal :=
  runExpandMem (packRow [.vbmi2] 512 8 .mergeZero) e m s

/-- VPEXPANDB zmm1(k1)(z), zmm2. -/
def execVpexpandbReg512 (e : Evex) (r : VReg) (s : State) : Host.Outcome State Fault Refusal :=
  runExpandReg (packRow [.vbmi2] 512 8 .mergeZero) e r s

/-- VPEXPANDW xmm1(k1)(z), m128. -/
def execVpexpandwMem128 (e : Evex) (m : Mem) (s : State) : Host.Outcome State Fault Refusal :=
  runExpandMem (packRow [.vbmi2, .avx512vl] 128 16 .mergeZero) e m s

/-- VPEXPANDW xmm1(k1)(z), xmm2. -/
def execVpexpandwReg128 (e : Evex) (r : VReg) (s : State) : Host.Outcome State Fault Refusal :=
  runExpandReg (packRow [.vbmi2, .avx512vl] 128 16 .mergeZero) e r s

/-- VPEXPANDW ymm1(k1)(z), m256. -/
def execVpexpandwMem256 (e : Evex) (m : Mem) (s : State) : Host.Outcome State Fault Refusal :=
  runExpandMem (packRow [.vbmi2, .avx512vl] 256 16 .mergeZero) e m s

/-- VPEXPANDW ymm1(k1)(z), ymm2. -/
def execVpexpandwReg256 (e : Evex) (r : VReg) (s : State) : Host.Outcome State Fault Refusal :=
  runExpandReg (packRow [.vbmi2, .avx512vl] 256 16 .mergeZero) e r s

/-- VPEXPANDW zmm1(k1)(z), m512. -/
def execVpexpandwMem512 (e : Evex) (m : Mem) (s : State) : Host.Outcome State Fault Refusal :=
  runExpandMem (packRow [.vbmi2] 512 16 .mergeZero) e m s

/-- VPEXPANDW zmm1(k1)(z), zmm2. -/
def execVpexpandwReg512 (e : Evex) (r : VReg) (s : State) : Host.Outcome State Fault Refusal :=
  runExpandReg (packRow [.vbmi2] 512 16 .mergeZero) e r s

/-- VPSHLDW xmm1(k1)(z), xmm2, xmm3/m128, imm8. -/
def execVpshldw128 (e : Evex) (rm : Rm) (imm : Byte) (s : State) : Host.Outcome State Fault Refusal :=
  runEvex (evexRow [.vbmi2, .avx512vl] 128 16 0 true true .mergeZero) (fun _ => shldOp 16 128 imm) e rm s

/-- VPSHLDW ymm1(k1)(z), ymm2, ymm3/m256, imm8. -/
def execVpshldw256 (e : Evex) (rm : Rm) (imm : Byte) (s : State) : Host.Outcome State Fault Refusal :=
  runEvex (evexRow [.vbmi2, .avx512vl] 256 16 0 true true .mergeZero) (fun _ => shldOp 16 256 imm) e rm s

/-- VPSHLDW zmm1(k1)(z), zmm2, zmm3/m512, imm8. -/
def execVpshldw512 (e : Evex) (rm : Rm) (imm : Byte) (s : State) : Host.Outcome State Fault Refusal :=
  runEvex (evexRow [.vbmi2] 512 16 0 true true .mergeZero) (fun _ => shldOp 16 512 imm) e rm s

/-- VPSHLDD xmm1(k1)(z), xmm2, xmm3/m128/m32bcst, imm8. -/
def execVpshldd128 (e : Evex) (rm : Rm) (imm : Byte) (s : State) : Host.Outcome State Fault Refusal :=
  runEvex (evexRow [.vbmi2, .avx512vl] 128 32 4 true true .mergeZero) (fun _ => shldOp 32 128 imm) e rm s

/-- VPSHLDD ymm1(k1)(z), ymm2, ymm3/m256/m32bcst, imm8. -/
def execVpshldd256 (e : Evex) (rm : Rm) (imm : Byte) (s : State) : Host.Outcome State Fault Refusal :=
  runEvex (evexRow [.vbmi2, .avx512vl] 256 32 4 true true .mergeZero) (fun _ => shldOp 32 256 imm) e rm s

/-- VPSHLDD zmm1(k1)(z), zmm2, zmm3/m512/m32bcst, imm8. -/
def execVpshldd512 (e : Evex) (rm : Rm) (imm : Byte) (s : State) : Host.Outcome State Fault Refusal :=
  runEvex (evexRow [.vbmi2] 512 32 4 true true .mergeZero) (fun _ => shldOp 32 512 imm) e rm s

/-- VPSHLDQ xmm1(k1)(z), xmm2, xmm3/m128/m64bcst, imm8. -/
def execVpshldq128 (e : Evex) (rm : Rm) (imm : Byte) (s : State) : Host.Outcome State Fault Refusal :=
  runEvex (evexRow [.vbmi2, .avx512vl] 128 64 8 true true .mergeZero) (fun _ => shldOp 64 128 imm) e rm s

/-- VPSHLDQ ymm1(k1)(z), ymm2, ymm3/m256/m64bcst, imm8. -/
def execVpshldq256 (e : Evex) (rm : Rm) (imm : Byte) (s : State) : Host.Outcome State Fault Refusal :=
  runEvex (evexRow [.vbmi2, .avx512vl] 256 64 8 true true .mergeZero) (fun _ => shldOp 64 256 imm) e rm s

/-- VPSHLDQ zmm1(k1)(z), zmm2, zmm3/m512/m64bcst, imm8. -/
def execVpshldq512 (e : Evex) (rm : Rm) (imm : Byte) (s : State) : Host.Outcome State Fault Refusal :=
  runEvex (evexRow [.vbmi2] 512 64 8 true true .mergeZero) (fun _ => shldOp 64 512 imm) e rm s

/-- VPSHLDVW xmm1(k1)(z), xmm2, xmm3/m128. -/
def execVpshldvw128 (e : Evex) (rm : Rm) (s : State) : Host.Outcome State Fault Refusal :=
  runEvex (evexRow [.vbmi2, .avx512vl] 128 16 0 true true .mergeZero) (shldvOp 16 128) e rm s

/-- VPSHLDVW ymm1(k1)(z), ymm2, ymm3/m256. -/
def execVpshldvw256 (e : Evex) (rm : Rm) (s : State) : Host.Outcome State Fault Refusal :=
  runEvex (evexRow [.vbmi2, .avx512vl] 256 16 0 true true .mergeZero) (shldvOp 16 256) e rm s

/-- VPSHLDVW zmm1(k1)(z), zmm2, zmm3/m512. -/
def execVpshldvw512 (e : Evex) (rm : Rm) (s : State) : Host.Outcome State Fault Refusal :=
  runEvex (evexRow [.vbmi2] 512 16 0 true true .mergeZero) (shldvOp 16 512) e rm s

/-- VPSHLDVD xmm1(k1)(z), xmm2, xmm3/m128/m32bcst. -/
def execVpshldvd128 (e : Evex) (rm : Rm) (s : State) : Host.Outcome State Fault Refusal :=
  runEvex (evexRow [.vbmi2, .avx512vl] 128 32 4 true true .mergeZero) (shldvOp 32 128) e rm s

/-- VPSHLDVD ymm1(k1)(z), ymm2, ymm3/m256/m32bcst. -/
def execVpshldvd256 (e : Evex) (rm : Rm) (s : State) : Host.Outcome State Fault Refusal :=
  runEvex (evexRow [.vbmi2, .avx512vl] 256 32 4 true true .mergeZero) (shldvOp 32 256) e rm s

/-- VPSHLDVD zmm1(k1)(z), zmm2, zmm3/m512/m32bcst. -/
def execVpshldvd512 (e : Evex) (rm : Rm) (s : State) : Host.Outcome State Fault Refusal :=
  runEvex (evexRow [.vbmi2] 512 32 4 true true .mergeZero) (shldvOp 32 512) e rm s

/-- VPSHLDVQ xmm1(k1)(z), xmm2, xmm3/m128/m64bcst. -/
def execVpshldvq128 (e : Evex) (rm : Rm) (s : State) : Host.Outcome State Fault Refusal :=
  runEvex (evexRow [.vbmi2, .avx512vl] 128 64 8 true true .mergeZero) (shldvOp 64 128) e rm s

/-- VPSHLDVQ ymm1(k1)(z), ymm2, ymm3/m256/m64bcst. -/
def execVpshldvq256 (e : Evex) (rm : Rm) (s : State) : Host.Outcome State Fault Refusal :=
  runEvex (evexRow [.vbmi2, .avx512vl] 256 64 8 true true .mergeZero) (shldvOp 64 256) e rm s

/-- VPSHLDVQ zmm1(k1)(z), zmm2, zmm3/m512/m64bcst. -/
def execVpshldvq512 (e : Evex) (rm : Rm) (s : State) : Host.Outcome State Fault Refusal :=
  runEvex (evexRow [.vbmi2] 512 64 8 true true .mergeZero) (shldvOp 64 512) e rm s

/-- VPSHRDW xmm1(k1)(z), xmm2, xmm3/m128, imm8. -/
def execVpshrdw128 (e : Evex) (rm : Rm) (imm : Byte) (s : State) : Host.Outcome State Fault Refusal :=
  runEvex (evexRow [.vbmi2, .avx512vl] 128 16 0 true true .mergeZero) (fun _ => shrdOp 16 128 imm) e rm s

/-- VPSHRDW ymm1(k1)(z), ymm2, ymm3/m256, imm8. -/
def execVpshrdw256 (e : Evex) (rm : Rm) (imm : Byte) (s : State) : Host.Outcome State Fault Refusal :=
  runEvex (evexRow [.vbmi2, .avx512vl] 256 16 0 true true .mergeZero) (fun _ => shrdOp 16 256 imm) e rm s

/-- VPSHRDW zmm1(k1)(z), zmm2, zmm3/m512, imm8. -/
def execVpshrdw512 (e : Evex) (rm : Rm) (imm : Byte) (s : State) : Host.Outcome State Fault Refusal :=
  runEvex (evexRow [.vbmi2] 512 16 0 true true .mergeZero) (fun _ => shrdOp 16 512 imm) e rm s

/-- VPSHRDD xmm1(k1)(z), xmm2, xmm3/m128/m32bcst, imm8. -/
def execVpshrdd128 (e : Evex) (rm : Rm) (imm : Byte) (s : State) : Host.Outcome State Fault Refusal :=
  runEvex (evexRow [.vbmi2, .avx512vl] 128 32 4 true true .mergeZero) (fun _ => shrdOp 32 128 imm) e rm s

/-- VPSHRDD ymm1(k1)(z), ymm2, ymm3/m256/m32bcst, imm8. -/
def execVpshrdd256 (e : Evex) (rm : Rm) (imm : Byte) (s : State) : Host.Outcome State Fault Refusal :=
  runEvex (evexRow [.vbmi2, .avx512vl] 256 32 4 true true .mergeZero) (fun _ => shrdOp 32 256 imm) e rm s

/-- VPSHRDD zmm1(k1)(z), zmm2, zmm3/m512/m32bcst, imm8. -/
def execVpshrdd512 (e : Evex) (rm : Rm) (imm : Byte) (s : State) : Host.Outcome State Fault Refusal :=
  runEvex (evexRow [.vbmi2] 512 32 4 true true .mergeZero) (fun _ => shrdOp 32 512 imm) e rm s

/-- VPSHRDQ xmm1(k1)(z), xmm2, xmm3/m128/m64bcst, imm8. -/
def execVpshrdq128 (e : Evex) (rm : Rm) (imm : Byte) (s : State) : Host.Outcome State Fault Refusal :=
  runEvex (evexRow [.vbmi2, .avx512vl] 128 64 8 true true .mergeZero) (fun _ => shrdOp 64 128 imm) e rm s

/-- VPSHRDQ ymm1(k1)(z), ymm2, ymm3/m256/m64bcst, imm8. -/
def execVpshrdq256 (e : Evex) (rm : Rm) (imm : Byte) (s : State) : Host.Outcome State Fault Refusal :=
  runEvex (evexRow [.vbmi2, .avx512vl] 256 64 8 true true .mergeZero) (fun _ => shrdOp 64 256 imm) e rm s

/-- VPSHRDQ zmm1(k1)(z), zmm2, zmm3/m512/m64bcst, imm8. -/
def execVpshrdq512 (e : Evex) (rm : Rm) (imm : Byte) (s : State) : Host.Outcome State Fault Refusal :=
  runEvex (evexRow [.vbmi2] 512 64 8 true true .mergeZero) (fun _ => shrdOp 64 512 imm) e rm s

/-- VPSHRDVW xmm1(k1)(z), xmm2, xmm3/m128. -/
def execVpshrdvw128 (e : Evex) (rm : Rm) (s : State) : Host.Outcome State Fault Refusal :=
  runEvex (evexRow [.vbmi2, .avx512vl] 128 16 0 true true .mergeZero) (shrdvOp 16 128) e rm s

/-- VPSHRDVW ymm1(k1)(z), ymm2, ymm3/m256. -/
def execVpshrdvw256 (e : Evex) (rm : Rm) (s : State) : Host.Outcome State Fault Refusal :=
  runEvex (evexRow [.vbmi2, .avx512vl] 256 16 0 true true .mergeZero) (shrdvOp 16 256) e rm s

/-- VPSHRDVW zmm1(k1)(z), zmm2, zmm3/m512. -/
def execVpshrdvw512 (e : Evex) (rm : Rm) (s : State) : Host.Outcome State Fault Refusal :=
  runEvex (evexRow [.vbmi2] 512 16 0 true true .mergeZero) (shrdvOp 16 512) e rm s

/-- VPSHRDVD xmm1(k1)(z), xmm2, xmm3/m128/m32bcst. -/
def execVpshrdvd128 (e : Evex) (rm : Rm) (s : State) : Host.Outcome State Fault Refusal :=
  runEvex (evexRow [.vbmi2, .avx512vl] 128 32 4 true true .mergeZero) (shrdvOp 32 128) e rm s

/-- VPSHRDVD ymm1(k1)(z), ymm2, ymm3/m256/m32bcst. -/
def execVpshrdvd256 (e : Evex) (rm : Rm) (s : State) : Host.Outcome State Fault Refusal :=
  runEvex (evexRow [.vbmi2, .avx512vl] 256 32 4 true true .mergeZero) (shrdvOp 32 256) e rm s

/-- VPSHRDVD zmm1(k1)(z), zmm2, zmm3/m512/m32bcst. -/
def execVpshrdvd512 (e : Evex) (rm : Rm) (s : State) : Host.Outcome State Fault Refusal :=
  runEvex (evexRow [.vbmi2] 512 32 4 true true .mergeZero) (shrdvOp 32 512) e rm s

/-- VPSHRDVQ xmm1(k1)(z), xmm2, xmm3/m128/m64bcst. -/
def execVpshrdvq128 (e : Evex) (rm : Rm) (s : State) : Host.Outcome State Fault Refusal :=
  runEvex (evexRow [.vbmi2, .avx512vl] 128 64 8 true true .mergeZero) (shrdvOp 64 128) e rm s

/-- VPSHRDVQ ymm1(k1)(z), ymm2, ymm3/m256/m64bcst. -/
def execVpshrdvq256 (e : Evex) (rm : Rm) (s : State) : Host.Outcome State Fault Refusal :=
  runEvex (evexRow [.vbmi2, .avx512vl] 256 64 8 true true .mergeZero) (shrdvOp 64 256) e rm s

/-- VPSHRDVQ zmm1(k1)(z), zmm2, zmm3/m512/m64bcst. -/
def execVpshrdvq512 (e : Evex) (rm : Rm) (s : State) : Host.Outcome State Fault Refusal :=
  runEvex (evexRow [.vbmi2] 512 64 8 true true .mergeZero) (shrdvOp 64 512) e rm s

end Sys2Proof.Machine
end

