-- ==== Sys2Proof/Machine/Vnni.lean ====
section
/-! DEFINITION. AVX512_VNNI (48_vnni.md R460 to R470): VPDPBUSD, VPDPBUSDS, VPDPWSSD, VPDPWSSDS. -/

namespace Sys2Proof.Machine

/-- The exact sum of four products of unsigned bytes of `a` and signed bytes of `b` (R463). -/
def bytesDot (a b : Word32) : Int :=
  ((List.range 4).map fun i =>
    ((a.extractLsb' (8 * i) 8).toNat : Int) * (b.extractLsb' (8 * i) 8).toInt).foldr (· + ·) 0

/-- The exact sum of two products of signed words (R467). -/
def wordsDot (a b : Word32) : Int :=
  ((List.range 2).map fun i =>
    (a.extractLsb' (16 * i) 16).toInt * (b.extractLsb' (16 * i) 16).toInt).foldr (· + ·) 0

/-- `SIGNED_DWORD_SATURATE` of the exact sum, or the sum modulo 2^32 (R461, R463). -/
def accumulate (sat : Bool) (d : Word32) (p : Int) : Word32 :=
  if sat then saturate 32 (d.toInt + p) else BitVec.ofInt 32 (d.toInt + p)

/-- Every dword: the old destination plus the dot product of vvvv and r/m (R463, R465, R467, R469). -/
def dotOp (vl : Nat) (dot : Word32 → Word32 → Int) (sat : Bool) (old x y : Vec) : Vec :=
  lanes 32 (vl / 32) fun i => accumulate sat (elem 32 old i) (dot (elem 32 x i) (elem 32 y i))

/-- VPDPBUSD xmm1(k1)(z), xmm2, xmm3/m128/m32bcst. -/
def execVpdpbusd128 (e : Evex) (rm : Rm) (s : State) : Host.Outcome State Fault Refusal :=
  runEvex (evexRow [.vnni, .avx512vl] 128 32 4 true true .mergeZero) (dotOp 128 bytesDot false) e rm s

/-- VPDPBUSD ymm1(k1)(z), ymm2, ymm3/m256/m32bcst. -/
def execVpdpbusd256 (e : Evex) (rm : Rm) (s : State) : Host.Outcome State Fault Refusal :=
  runEvex (evexRow [.vnni, .avx512vl] 256 32 4 true true .mergeZero) (dotOp 256 bytesDot false) e rm s

/-- VPDPBUSD zmm1(k1)(z), zmm2, zmm3/m512/m32bcst. -/
def execVpdpbusd512 (e : Evex) (rm : Rm) (s : State) : Host.Outcome State Fault Refusal :=
  runEvex (evexRow [.vnni] 512 32 4 true true .mergeZero) (dotOp 512 bytesDot false) e rm s

/-- VPDPBUSDS xmm1(k1)(z), xmm2, xmm3/m128/m32bcst. -/
def execVpdpbusds128 (e : Evex) (rm : Rm) (s : State) : Host.Outcome State Fault Refusal :=
  runEvex (evexRow [.vnni, .avx512vl] 128 32 4 true true .mergeZero) (dotOp 128 bytesDot true) e rm s

/-- VPDPBUSDS ymm1(k1)(z), ymm2, ymm3/m256/m32bcst. -/
def execVpdpbusds256 (e : Evex) (rm : Rm) (s : State) : Host.Outcome State Fault Refusal :=
  runEvex (evexRow [.vnni, .avx512vl] 256 32 4 true true .mergeZero) (dotOp 256 bytesDot true) e rm s

/-- VPDPBUSDS zmm1(k1)(z), zmm2, zmm3/m512/m32bcst. -/
def execVpdpbusds512 (e : Evex) (rm : Rm) (s : State) : Host.Outcome State Fault Refusal :=
  runEvex (evexRow [.vnni] 512 32 4 true true .mergeZero) (dotOp 512 bytesDot true) e rm s

/-- VPDPWSSD xmm1(k1)(z), xmm2, xmm3/m128/m32bcst. -/
def execVpdpwssd128 (e : Evex) (rm : Rm) (s : State) : Host.Outcome State Fault Refusal :=
  runEvex (evexRow [.vnni, .avx512vl] 128 32 4 true true .mergeZero) (dotOp 128 wordsDot false) e rm s

/-- VPDPWSSD ymm1(k1)(z), ymm2, ymm3/m256/m32bcst. -/
def execVpdpwssd256 (e : Evex) (rm : Rm) (s : State) : Host.Outcome State Fault Refusal :=
  runEvex (evexRow [.vnni, .avx512vl] 256 32 4 true true .mergeZero) (dotOp 256 wordsDot false) e rm s

/-- VPDPWSSD zmm1(k1)(z), zmm2, zmm3/m512/m32bcst. -/
def execVpdpwssd512 (e : Evex) (rm : Rm) (s : State) : Host.Outcome State Fault Refusal :=
  runEvex (evexRow [.vnni] 512 32 4 true true .mergeZero) (dotOp 512 wordsDot false) e rm s

/-- VPDPWSSDS xmm1(k1)(z), xmm2, xmm3/m128/m32bcst. -/
def execVpdpwssds128 (e : Evex) (rm : Rm) (s : State) : Host.Outcome State Fault Refusal :=
  runEvex (evexRow [.vnni, .avx512vl] 128 32 4 true true .mergeZero) (dotOp 128 wordsDot true) e rm s

/-- VPDPWSSDS ymm1(k1)(z), ymm2, ymm3/m256/m32bcst. -/
def execVpdpwssds256 (e : Evex) (rm : Rm) (s : State) : Host.Outcome State Fault Refusal :=
  runEvex (evexRow [.vnni, .avx512vl] 256 32 4 true true .mergeZero) (dotOp 256 wordsDot true) e rm s

/-- VPDPWSSDS zmm1(k1)(z), zmm2, zmm3/m512/m32bcst. -/
def execVpdpwssds512 (e : Evex) (rm : Rm) (s : State) : Host.Outcome State Fault Refusal :=
  runEvex (evexRow [.vnni] 512 32 4 true true .mergeZero) (dotOp 512 wordsDot true) e rm s

end Sys2Proof.Machine
end

