-- ==== Sys2Proof/Machine/Waitpkg.lean ====
section
/-! DEFINITION. TPAUSE, UMONITOR and UMWAIT (45_waitpkg.md R380 to R392). Power states are not modelled (10_state.md R72);
when a wait ends is a free value (D11). -/

namespace Sys2Proof.Machine

/-- `M`: IA32_UMWAIT_CONTROL[31:2] << 2 (R386). -/
def umwaitLimit (s : State) : Nat := (s.msr.umwaitControl &&& 0xFFFFFFFC#32).toNat

/-- `instr_deadline`: EDX:EAX (R381). -/
def instrDeadline (s : State) : Nat := ((s.gpr32 rdx) ++ (s.gpr32 rax)).toNat

/-- `using_os_deadline`: there is a limit and T0 + M, not wrapped, is strictly the earlier (R386, D17). -/
def usingOsDeadline (s : State) : Bool :=
  decide (umwaitLimit s ≠ 0) && decide (s.tsc.toNat + umwaitLimit s < instrDeadline s)

/-- `deadline` (R381). -/
def waitDeadline (s : State) : Nat := if usingOsDeadline s then s.tsc.toNat + umwaitLimit s else instrDeadline s

/-- The state when a wait is over: any TSC from now on (R387, R392, D11). -/
def State.wait (s : State) : State := { s with tsc := tscAdvance s.tsc s.anyNat, draws := s.draws + 1 }

/-- CF at the end: the OS limit was in force and T1 lies strictly behind it (R388, R392, D16). -/
def waitCarry (s t : State) : Bool := usingOsDeadline s && decide (waitDeadline s < t.tsc.toNat)

/-- No cause of #UD: LOCK, the feature (R380, R389). -/
def waitpkgLegal (p : Pfx) (s : State) : Bool := !p.forbidden && s.cfg.features.waitpkg

/-- src[31:1] = 0 (R381). -/
def waitSource (s : State) (r : GReg) : Bool := decide ((s.gpr32 r).extractLsb' 1 31 = 0#31)

/-- TPAUSE (R381, R386 to R389, R392). -/
def execTpause (p : Pfx) (r : GReg) (s : State) : Host.Outcome State Fault Refusal :=
  finish do
    check s (waitpkgLegal p s) .ud
    check s (waitSource s r) .gp
    let t := s.wait
    pure (t.setRflags (waitFlags s.rflags (waitCarry s t))).complete

/-- The monitor after UMWAIT: if it was armed it may or may not stay so (R384, D38). -/
def State.afterWait (s : State) : State :=
  match s.monitor with
  | none => s
  | some b => { s with monitor := if s.anyBool then some b else none, draws := s.draws + 1 }

/-- The wait of UMWAIT: where the monitor is not armed it does not wait and is over at the time it started, so that CF is 0
(R385, R393 row 19; 95_test_vectors.md P4; DEDUCED, assumption 38). -/
def State.waitArmed (s : State) : State :=
  match s.monitor with
  | none => s
  | some _ => s.wait

/-- UMWAIT (R385 to R389, R392). -/
def execUmwait (p : Pfx) (r : GReg) (s : State) : Host.Outcome State Fault Refusal :=
  finish do
    check s (waitpkgLegal p s) .ud
    check s (waitSource s r) .gp
    let t := s.waitArmed
    pure (t.afterWait.setRflags (waitFlags s.rflags (waitCarry s t))).complete

/-- The access UMONITOR is checked as: a byte load, whose segment also decides the exception in real-address and
virtual-8086 mode (R382, R390). -/
def Access.monitored : Access := { Access.load with ssInReal := true, ssInV86 := true }

/-- The monitored block of a physical address (R382, D38). -/
def monitorBlock (s : State) (pa : Nat) : Nat := pa / monitorSize s.cfg * monitorSize s.cfg

/-- UMONITOR arms the monitor, or fails to (R382, R384). -/
def State.arm (s : State) (pa : Nat) : State :=
  { s with monitor := if s.anyBool then some (monitorBlock s pa) else none, draws := s.draws + 1 }

/-- UMONITOR: DS unless overridden, whatever the register (R382, R390). -/
def execUmonitor (p : Pfx) (r : GReg) (s : State) : Host.Outcome State Fault Refusal :=
  finish do
    check s (waitpkgLegal p s) .ud
    let (pas, t) ← locate s Access.monitored (effSeg s p .ds) (s.gprAddr (s.addrSize p) r) 1
    pure (t.arm (pas.headD 0)).complete

end Sys2Proof.Machine
end

