-- ==== Sys2Proof/Machine/Dispatch.lean ====
section
/-! DEFINITION. One arm per constructor of `Instr`: its meaning. -/

namespace Sys2Proof.Machine

def exec (i : Instr) (s : State) : Host.Outcome State Fault Refusal :=
  match i with
  | .cpuid p => Sys2Proof.Machine.execCpuid p s
  | .cldemote p m => Sys2Proof.Machine.execCldemote p m s
  | .movdiri32 p r m => Sys2Proof.Machine.execMovdiri32 p r m s
  | .movdiri64 p r m => Sys2Proof.Machine.execMovdiri64 p r m s
  | .movdir64b p r m => Sys2Proof.Machine.execMovdir64b p r m s
  | .wbnoinvd p => Sys2Proof.Machine.execWbnoinvd p s
  | .pconfig p => Sys2Proof.Machine.execPconfig p s
  | .tpause p r => Sys2Proof.Machine.execTpause p r s
  | .umonitor p r => Sys2Proof.Machine.execUmonitor p r s
  | .umwait p r => Sys2Proof.Machine.execUmwait p r s
  | .gf2p8affineqb p r rm imm => Sys2Proof.Machine.execGf2p8affineqb p r rm imm s
  | .vgf2p8affineqbVex128 v rm imm => Sys2Proof.Machine.execVgf2p8affineqbVex128 v rm imm s
  | .vgf2p8affineqbVex256 v rm imm => Sys2Proof.Machine.execVgf2p8affineqbVex256 v rm imm s
  | .vgf2p8affineqb128 e rm imm => Sys2Proof.Machine.execVgf2p8affineqb128 e rm imm s
  | .vgf2p8affineqb256 e rm imm => Sys2Proof.Machine.execVgf2p8affineqb256 e rm imm s
  | .vgf2p8affineqb512 e rm imm => Sys2Proof.Machine.execVgf2p8affineqb512 e rm imm s
  | .gf2p8affineinvqb p r rm imm => Sys2Proof.Machine.execGf2p8affineinvqb p r rm imm s
  | .vgf2p8affineinvqbVex128 v rm imm => Sys2Proof.Machine.execVgf2p8affineinvqbVex128 v rm imm s
  | .vgf2p8affineinvqbVex256 v rm imm => Sys2Proof.Machine.execVgf2p8affineinvqbVex256 v rm imm s
  | .vgf2p8affineinvqb128 e rm imm => Sys2Proof.Machine.execVgf2p8affineinvqb128 e rm imm s
  | .vgf2p8affineinvqb256 e rm imm => Sys2Proof.Machine.execVgf2p8affineinvqb256 e rm imm s
  | .vgf2p8affineinvqb512 e rm imm => Sys2Proof.Machine.execVgf2p8affineinvqb512 e rm imm s
  | .gf2p8mulb p r rm => Sys2Proof.Machine.execGf2p8mulb p r rm s
  | .vgf2p8mulbVex128 v rm => Sys2Proof.Machine.execVgf2p8mulbVex128 v rm s
  | .vgf2p8mulbVex256 v rm => Sys2Proof.Machine.execVgf2p8mulbVex256 v rm s
  | .vgf2p8mulb128 e rm => Sys2Proof.Machine.execVgf2p8mulb128 e rm s
  | .vgf2p8mulb256 e rm => Sys2Proof.Machine.execVgf2p8mulb256 e rm s
  | .vgf2p8mulb512 e rm => Sys2Proof.Machine.execVgf2p8mulb512 e rm s
  | .vaesdecVex256 v rm => Sys2Proof.Machine.execVaesdecVex256 v rm s
  | .vaesdec128 e rm => Sys2Proof.Machine.execVaesdec128 e rm s
  | .vaesdec256 e rm => Sys2Proof.Machine.execVaesdec256 e rm s
  | .vaesdec512 e rm => Sys2Proof.Machine.execVaesdec512 e rm s
  | .vaesdeclastVex256 v rm => Sys2Proof.Machine.execVaesdeclastVex256 v rm s
  | .vaesdeclast128 e rm => Sys2Proof.Machine.execVaesdeclast128 e rm s
  | .vaesdeclast256 e rm => Sys2Proof.Machine.execVaesdeclast256 e rm s
  | .vaesdeclast512 e rm => Sys2Proof.Machine.execVaesdeclast512 e rm s
  | .vaesencVex256 v rm => Sys2Proof.Machine.execVaesencVex256 v rm s
  | .vaesenc128 e rm => Sys2Proof.Machine.execVaesenc128 e rm s
  | .vaesenc256 e rm => Sys2Proof.Machine.execVaesenc256 e rm s
  | .vaesenc512 e rm => Sys2Proof.Machine.execVaesenc512 e rm s
  | .vaesenclastVex256 v rm => Sys2Proof.Machine.execVaesenclastVex256 v rm s
  | .vaesenclast128 e rm => Sys2Proof.Machine.execVaesenclast128 e rm s
  | .vaesenclast256 e rm => Sys2Proof.Machine.execVaesenclast256 e rm s
  | .vaesenclast512 e rm => Sys2Proof.Machine.execVaesenclast512 e rm s
  | .vpclmulqdqVex256 v rm imm => Sys2Proof.Machine.execVpclmulqdqVex256 v rm imm s
  | .vpclmulqdq128 e rm imm => Sys2Proof.Machine.execVpclmulqdq128 e rm imm s
  | .vpclmulqdq256 e rm imm => Sys2Proof.Machine.execVpclmulqdq256 e rm imm s
  | .vpclmulqdq512 e rm imm => Sys2Proof.Machine.execVpclmulqdq512 e rm imm s
  | .vpcompressbMem128 e m => Sys2Proof.Machine.execVpcompressbMem128 e m s
  | .vpcompressbReg128 e r => Sys2Proof.Machine.execVpcompressbReg128 e r s
  | .vpcompressbMem256 e m => Sys2Proof.Machine.execVpcompressbMem256 e m s
  | .vpcompressbReg256 e r => Sys2Proof.Machine.execVpcompressbReg256 e r s
  | .vpcompressbMem512 e m => Sys2Proof.Machine.execVpcompressbMem512 e m s
  | .vpcompressbReg512 e r => Sys2Proof.Machine.execVpcompressbReg512 e r s
  | .vpcompresswMem128 e m => Sys2Proof.Machine.execVpcompresswMem128 e m s
  | .vpcompresswReg128 e r => Sys2Proof.Machine.execVpcompresswReg128 e r s
  | .vpcompresswMem256 e m => Sys2Proof.Machine.execVpcompresswMem256 e m s
  | .vpcompresswReg256 e r => Sys2Proof.Machine.execVpcompresswReg256 e r s
  | .vpcompresswMem512 e m => Sys2Proof.Machine.execVpcompresswMem512 e m s
  | .vpcompresswReg512 e r => Sys2Proof.Machine.execVpcompresswReg512 e r s
  | .vpexpandbMem128 e m => Sys2Proof.Machine.execVpexpandbMem128 e m s
  | .vpexpandbReg128 e r => Sys2Proof.Machine.execVpexpandbReg128 e r s
  | .vpexpandbMem256 e m => Sys2Proof.Machine.execVpexpandbMem256 e m s
  | .vpexpandbReg256 e r => Sys2Proof.Machine.execVpexpandbReg256 e r s
  | .vpexpandbMem512 e m => Sys2Proof.Machine.execVpexpandbMem512 e m s
  | .vpexpandbReg512 e r => Sys2Proof.Machine.execVpexpandbReg512 e r s
  | .vpexpandwMem128 e m => Sys2Proof.Machine.execVpexpandwMem128 e m s
  | .vpexpandwReg128 e r => Sys2Proof.Machine.execVpexpandwReg128 e r s
  | .vpexpandwMem256 e m => Sys2Proof.Machine.execVpexpandwMem256 e m s
  | .vpexpandwReg256 e r => Sys2Proof.Machine.execVpexpandwReg256 e r s
  | .vpexpandwMem512 e m => Sys2Proof.Machine.execVpexpandwMem512 e m s
  | .vpexpandwReg512 e r => Sys2Proof.Machine.execVpexpandwReg512 e r s
  | .vpshldw128 e rm imm => Sys2Proof.Machine.execVpshldw128 e rm imm s
  | .vpshldw256 e rm imm => Sys2Proof.Machine.execVpshldw256 e rm imm s
  | .vpshldw512 e rm imm => Sys2Proof.Machine.execVpshldw512 e rm imm s
  | .vpshldd128 e rm imm => Sys2Proof.Machine.execVpshldd128 e rm imm s
  | .vpshldd256 e rm imm => Sys2Proof.Machine.execVpshldd256 e rm imm s
  | .vpshldd512 e rm imm => Sys2Proof.Machine.execVpshldd512 e rm imm s
  | .vpshldq128 e rm imm => Sys2Proof.Machine.execVpshldq128 e rm imm s
  | .vpshldq256 e rm imm => Sys2Proof.Machine.execVpshldq256 e rm imm s
  | .vpshldq512 e rm imm => Sys2Proof.Machine.execVpshldq512 e rm imm s
  | .vpshldvw128 e rm => Sys2Proof.Machine.execVpshldvw128 e rm s
  | .vpshldvw256 e rm => Sys2Proof.Machine.execVpshldvw256 e rm s
  | .vpshldvw512 e rm => Sys2Proof.Machine.execVpshldvw512 e rm s
  | .vpshldvd128 e rm => Sys2Proof.Machine.execVpshldvd128 e rm s
  | .vpshldvd256 e rm => Sys2Proof.Machine.execVpshldvd256 e rm s
  | .vpshldvd512 e rm => Sys2Proof.Machine.execVpshldvd512 e rm s
  | .vpshldvq128 e rm => Sys2Proof.Machine.execVpshldvq128 e rm s
  | .vpshldvq256 e rm => Sys2Proof.Machine.execVpshldvq256 e rm s
  | .vpshldvq512 e rm => Sys2Proof.Machine.execVpshldvq512 e rm s
  | .vpshrdw128 e rm imm => Sys2Proof.Machine.execVpshrdw128 e rm imm s
  | .vpshrdw256 e rm imm => Sys2Proof.Machine.execVpshrdw256 e rm imm s
  | .vpshrdw512 e rm imm => Sys2Proof.Machine.execVpshrdw512 e rm imm s
  | .vpshrdd128 e rm imm => Sys2Proof.Machine.execVpshrdd128 e rm imm s
  | .vpshrdd256 e rm imm => Sys2Proof.Machine.execVpshrdd256 e rm imm s
  | .vpshrdd512 e rm imm => Sys2Proof.Machine.execVpshrdd512 e rm imm s
  | .vpshrdq128 e rm imm => Sys2Proof.Machine.execVpshrdq128 e rm imm s
  | .vpshrdq256 e rm imm => Sys2Proof.Machine.execVpshrdq256 e rm imm s
  | .vpshrdq512 e rm imm => Sys2Proof.Machine.execVpshrdq512 e rm imm s
  | .vpshrdvw128 e rm => Sys2Proof.Machine.execVpshrdvw128 e rm s
  | .vpshrdvw256 e rm => Sys2Proof.Machine.execVpshrdvw256 e rm s
  | .vpshrdvw512 e rm => Sys2Proof.Machine.execVpshrdvw512 e rm s
  | .vpshrdvd128 e rm => Sys2Proof.Machine.execVpshrdvd128 e rm s
  | .vpshrdvd256 e rm => Sys2Proof.Machine.execVpshrdvd256 e rm s
  | .vpshrdvd512 e rm => Sys2Proof.Machine.execVpshrdvd512 e rm s
  | .vpshrdvq128 e rm => Sys2Proof.Machine.execVpshrdvq128 e rm s
  | .vpshrdvq256 e rm => Sys2Proof.Machine.execVpshrdvq256 e rm s
  | .vpshrdvq512 e rm => Sys2Proof.Machine.execVpshrdvq512 e rm s
  | .vpdpbusd128 e rm => Sys2Proof.Machine.execVpdpbusd128 e rm s
  | .vpdpbusd256 e rm => Sys2Proof.Machine.execVpdpbusd256 e rm s
  | .vpdpbusd512 e rm => Sys2Proof.Machine.execVpdpbusd512 e rm s
  | .vpdpbusds128 e rm => Sys2Proof.Machine.execVpdpbusds128 e rm s
  | .vpdpbusds256 e rm => Sys2Proof.Machine.execVpdpbusds256 e rm s
  | .vpdpbusds512 e rm => Sys2Proof.Machine.execVpdpbusds512 e rm s
  | .vpdpwssd128 e rm => Sys2Proof.Machine.execVpdpwssd128 e rm s
  | .vpdpwssd256 e rm => Sys2Proof.Machine.execVpdpwssd256 e rm s
  | .vpdpwssd512 e rm => Sys2Proof.Machine.execVpdpwssd512 e rm s
  | .vpdpwssds128 e rm => Sys2Proof.Machine.execVpdpwssds128 e rm s
  | .vpdpwssds256 e rm => Sys2Proof.Machine.execVpdpwssds256 e rm s
  | .vpdpwssds512 e rm => Sys2Proof.Machine.execVpdpwssds512 e rm s
  | .vpopcntb128 e rm => Sys2Proof.Machine.execVpopcntb128 e rm s
  | .vpopcntb256 e rm => Sys2Proof.Machine.execVpopcntb256 e rm s
  | .vpopcntb512 e rm => Sys2Proof.Machine.execVpopcntb512 e rm s
  | .vpopcntw128 e rm => Sys2Proof.Machine.execVpopcntw128 e rm s
  | .vpopcntw256 e rm => Sys2Proof.Machine.execVpopcntw256 e rm s
  | .vpopcntw512 e rm => Sys2Proof.Machine.execVpopcntw512 e rm s
  | .vpopcntd128 e rm => Sys2Proof.Machine.execVpopcntd128 e rm s
  | .vpopcntd256 e rm => Sys2Proof.Machine.execVpopcntd256 e rm s
  | .vpopcntd512 e rm => Sys2Proof.Machine.execVpopcntd512 e rm s
  | .vpopcntq128 e rm => Sys2Proof.Machine.execVpopcntq128 e rm s
  | .vpopcntq256 e rm => Sys2Proof.Machine.execVpopcntq256 e rm s
  | .vpopcntq512 e rm => Sys2Proof.Machine.execVpopcntq512 e rm s
  | .vpshufbitqmb128 e rm => Sys2Proof.Machine.execVpshufbitqmb128 e rm s
  | .vpshufbitqmb256 e rm => Sys2Proof.Machine.execVpshufbitqmb256 e rm s
  | .vpshufbitqmb512 e rm => Sys2Proof.Machine.execVpshufbitqmb512 e rm s

end Sys2Proof.Machine
end

