-- ==== Sys2Proof/Machine/Fetch.lean ====
section
/-! DEFINITION. What a step does before the instruction: time, the spontaneous disarming of the monitor, fetching and
decoding (10_state.md R34, R35, R62; 20_memory.md R126; 30_encoding.md R151, R195, R196; 45_waitpkg.md R384). -/

namespace Sys2Proof.Machine

/-- The TSC advances by any amount between two steps (R62, D10). -/
def State.tickTsc (s : State) : State := { s with tsc := tscAdvance s.tsc s.anyNat, draws := s.draws + 1 }

/-- The monitor may disarm at any step boundary (45_waitpkg.md R384, D38). -/
def State.tickMonitor (s : State) : State :=
  match s.monitor with
  | none => s
  | some b => { s with monitor := if s.anyBool then none else some b, draws := s.draws + 1 }

/-- What happens at a step boundary. -/
def State.tick (s : State) : State := s.tickTsc.tickMonitor

/-- The bytes of the instruction stream as far as they can be fetched, and what stopped the fetch. -/
def fetchBytes (s : State) : List Byte × Option Stop := fetchFrom s maxInstrLen 0

/-- The free values a fetch has used: none unless bytes were overwritten since the last serializing event (R126). -/
def State.fetched (s : State) : State := if s.stale = [] then s else { s with draws := s.draws + maxInstrLen }

/-- The instruction at RIP with its length, or why there is none: the fault of the fetch where bytes are missing,
#GP(0) beyond 15 bytes (R151), #UD (R195), a refusal outside the spec (R196). -/
def fetchDecode (s : State) : Except Stop (Instr × Nat) :=
  let f := fetchBytes s
  match decode s.decodeMode f.1 with
  | .instr i len => .ok (i, len)
  | .undefined => .error (raise s .ud)
  | .needMore => .error (f.2.getD (raise s .gp))
  | .noMatch why => .error (.refused (.outsideSpec why))

/-- The state an instruction of `len` bytes starts in: the next instruction's address known, the fetched pages
accessed, no longer straight after a VM entry. -/
def State.begin (s : State) (len : Nat) : State :=
  let t := touchCode s.fetched len
  { t with nextRip := ripPlus s len, vmx := { t.vmx with justEntered := false } }

/-- The physical address of the byte `i` of the instruction stream. -/
def fetchAddress (s : State) (i : Nat) : Option Nat :=
  match locate s Access.code .cs (ripPlus s i) 1 with
  | .ok (pa :: _, _) => some pa
  | _ => none

/-- Where the bytes of an instruction at RIP lie, as far as they can be fetched. -/
def fetchCells (s : State) (bytes : List Byte) : List (Nat × Byte) :=
  ((List.range bytes.length).zip bytes).filterMap fun p => (fetchAddress s p.1).map fun a => (a, p.2)

end Sys2Proof.Machine
end

