-- ==== Sys2Proof/Machine/Inputs.lean ====
section
/-! DEFINITION. What the world outside the instruction stream does between two instructions (another agent's store also
while one runs, 20_memory.md R108): the hardware feedback agent (52_hardware_feedback_interface.md), Intel PT output and
VM transitions (50 R500 to R521, 51), MSR writes by an operating system (10_state.md R47 to R59), reset (R90 to R92), split
locks (53 R591). -/

namespace Sys2Proof.Machine

/-- The addresses of consecutive bytes. -/
def cellsAt (pa : Nat) (bytes : List Byte) : List (Nat × Byte) := (chunkBytes pa bytes.length).zip bytes

/-- A value with one bit replaced. -/
def setBit (v : Word64) (n : Nat) (b : Bool) : Word64 := if b then v ||| (1#64 <<< n) else clearBit v n

/-! ## Another agent's store while an instruction runs (20_memory.md R108, D9) -/

/-- The bytes of a store by another agent that land before (`early`) or after the accesses of the instruction that runs
meanwhile: each at a free choice of its own (R108, D9). -/
def landing (s : State) (early : Bool) (pa : Nat) (bytes : List Byte) : List (Nat × Byte) :=
  ((List.range bytes.length).filter fun i => Config.drawBool (s.draws + i) == early).map fun i =>
    (pa + i, bytes.getD i 0#8)

/-- The state the instruction runs in: the early bytes have landed. -/
def State.storeEarly (s : State) (pa : Nat) (bytes : List Byte) : State :=
  { s.storeByAgent (landing s true pa bytes) with draws := s.draws + bytes.length }

/-- The late bytes land where the instruction gave a next state. -/
def landAfter (late : List (Nat × Byte)) : Host.Outcome State Fault Refusal → Host.Outcome State Fault Refusal
  | .next t => .next (t.storeByAgent late)
  | .fault f => .fault f
  | .refused r => .refused r

/-! ## Hardware feedback interface (52 R570 to R580) -/

/-- "Hardware feedback interface structure change status" in IA32_PACKAGE_THERM_STATUS (R577). -/
def hfiStatusBit : Nat := 26
/-- "Hardware feedback interrupt enable" in IA32_PACKAGE_THERM_INTERRUPT (R578). -/
def hfiInterruptBit : Nat := 25

/-- `base`: IA32_HW_FEEDBACK_PTR.ADDR << 12 (R574, R580). -/
def hfiBase (s : State) : Nat := s.msr.hwFeedbackPtr.toNat / 0x1000 % 2 ^ (s.cfg.maxPhyAddr - 12) * 0x1000

/-- The precondition of an update: the interface is there and enabled, the pointer valid, the status bit clear (R580). -/
def hfiReady (s : State) : Bool :=
  s.cfg.features.hfi && bit s.msr.hwFeedbackConfig 0 && bit s.msr.hwFeedbackPtr 0 &&
    !bit s.msr.packageThermStatus hfiStatusBit

/-- The structures, by base address, that an update completing now may have gone to: the present one where the
precondition holds, and those to which an update begun earlier may still go; none while the status bit is set (R576,
R577, R580). -/
def hfiTargets (s : State) : List Nat :=
  if s.cfg.features.hfi && !bit s.msr.packageThermStatus hfiStatusBit then
    (if hfiReady s then [hfiBase s] else []) ++ s.hfi.inFlight
  else []

/-- An update may be in progress: the present structure is kept among those it may go to (R576, R580). -/
def State.hfiBegun (s : State) : State :=
  if hfiReady s then { s with hfi := { s.hfi with inFlight := hfiBase s :: s.hfi.inFlight } } else s

/-- The bytes of the rows an update writes: rows inside the structure, capabilities that CPUID reports (R573, R580). -/
def hfiRowCells (c : Cfg) (base : Nat) (rows : List HfiRow) : List (Nat × Byte) :=
  let caps := hfiCapabilities c
  (rows.filter fun r => decide (16 + 8 * r.row + 8 ≤ 4096 * c.hfiPages)).flatMap fun r =>
    let at_ := base + 16 + 8 * r.row
    (match r.perf with | some b => if caps.getLsbD 0 then [(at_, b)] else [] | none => []) ++
      (match r.energy with | some b => if caps.getLsbD 1 then [(at_ + 1, b)] else [] | none => [])

/-- A Changed byte: 01H if a capability of its kind was written, 00H if hardware chooses so, else untouched
(R571, R580, D49). -/
def hfiChanged (c : Cfg) (base : Nat) (cells : List (Nat × Byte)) (k : Nat) (clear : Bool) : List (Nat × Byte) :=
  let wrote := cells.any fun x => (x.1 - base) % 8 == k
  if wrote then [(base + 8 + k, 1#8)]
  else if clear && (hfiCapabilities c).getLsbD k then [(base + 8 + k, 0#8)] else []

/-- The low bytes of a value, lowest first. -/
def timestampBytes (v : Word64) : List Byte := (List.range 8).map fun i => v.extractLsb' (8 * i) 8

/-- One update, to one of its targets: the rows, the Changed bytes, the timestamp, then the status bit and the interrupt
event (R580, D50). An update that would write no capability, or whose timestamp falls back, does not happen. After it
none is in progress, and where the interface is disabled the status bit is the acknowledgement (R576). -/
def hfiUpdate (s : State) (target : Nat) (rows : List HfiRow) (timestamp : Word64) (clearPerf clearEnergy : Bool) : State :=
  match hfiTargets s with
  | [] => s
  | b :: bs =>
    let base := (b :: bs).getD (target % (b :: bs).length) b
    let cells := hfiRowCells s.cfg base rows
    if !cells.isEmpty && decide (s.hfi.lastTimestamp ≤ timestamp) then
      let all := cells ++ hfiChanged s.cfg base cells 0 clearPerf ++ hfiChanged s.cfg base cells 1 clearEnergy ++
        cellsAt base (timestampBytes timestamp)
      let t := s.storeByAgent all
      { t with
        msr := { t.msr with packageThermStatus := setBit t.msr.packageThermStatus hfiStatusBit true }
        hfi := {
          interruptPending := t.hfi.interruptPending || bit t.msr.packageThermInterrupt hfiInterruptBit
          disabling := t.hfi.disabling && bit t.msr.hwFeedbackConfig 0
          inFlight := []
          lastTimestamp := timestamp } }
    else s

/-- Hardware acknowledges the disabling: no write is in progress any more (R576). -/
def hfiAcknowledge (s : State) : State :=
  if s.hfi.disabling && s.cfg.features.hfi then
    { s with
      msr := { s.msr with packageThermStatus := setBit s.msr.packageThermStatus hfiStatusBit true }
      hfi := { s.hfi with disabling := false, inFlight := [] } }
  else s

/-- The enable bit is written. From 1 to 0 a disabling begins, or for SENTER may begin, which R576 does not say (`acks`).
Written 1 while a disabling waits for its acknowledgement, whether that still comes is not stated either: a free value
(assumption 27). Nor is it stated whether a second disabling before the first one's acknowledgement gets one of its own:
one acknowledgement answers for both (DESIGN CHOICE, assumption 27). -/
def State.setHfiConfig (s : State) (v : Word64) (acks : Bool) : State :=
  let was := bit s.msr.hwFeedbackConfig 0
  let t := if was && !bit v 0 then s.hfiBegun else s
  { t with
    msr := { t.msr with hwFeedbackConfig := v }
    hfi := { t.hfi with
      disabling := if bit v 0 then t.hfi.disabling && s.anyBool else t.hfi.disabling || (was && acks) }
    draws := s.draws + 1 }

/-- The pointer is written. An update in progress may go to the old structure or to the new one (R580); with a disabling
not acknowledged too (DESIGN CHOICE, assumption 27). -/
def State.setHfiPtr (s : State) (v : Word64) : State :=
  let t := s.hfiBegun
  let u := { t with msr := { t.msr with hwFeedbackPtr := v } }
  if !t.hfi.inFlight.isEmpty && bit v 0 then
    { u with hfi := { u.hfi with inFlight := hfiBase u :: u.hfi.inFlight } }
  else u

/-- SENTER clears the enable bit; whether the acknowledgement follows is not stated (R575, R576). -/
def senter (s : State) : State :=
  s.drawn.setHfiConfig (clearBit s.msr.hwFeedbackConfig 0) s.anyBool

/-! ## WRMSR (10_state.md R47 to R59) -/

/-- A row of the CPUID table, as far as the processor has its leaf. IA32_MISC_ENABLE.BOOT_NT4, which hides leaves above 3
from CPUID, takes no register away (DESIGN CHOICE, assumption 26). -/
def leafRow (c : Cfg) (leaf sub : Nat) : CpuidOut :=
  if leaf ≤ c.cpuidMaxBasic.toNat then cpuidTable c leaf sub else CpuidOut.zero

/-- Is IA32_XSS there: leaf 0DH, sub-leaf 1, EAX[3] (41_cpuid_leaves.md R278)? -/
def xssPresent (c : Cfg) : Bool := (leafRow c 0xD 1).eax.getLsbD 3

/-- The bits of a register a write may set, where the spec calls others reserved or the register is absent (R47). -/
def msrWritable (s : State) (m : MsrName) : Word64 :=
  let f := s.cfg.features
  match m with
  | .umwaitControl => if f.waitpkg then 0xFFFFFFFD#64 else 0#64
  | .testCtl => if f.splitLock then 0xA0000000#64 else 0x80000000#64
  | .hwFeedbackPtr =>
    if f.hfi then BitVec.ofNat 64 (2 ^ s.cfg.maxPhyAddr - 1) &&& 0xFFFFFFFFFFFFF001#64 else 0#64
  | .hwFeedbackConfig => if f.hfi then 1#64 else 0#64
  | .packageThermStatus => if f.hfi then BitVec.allOnes 64 else clearBit (BitVec.allOnes 64) hfiStatusBit
  | .packageThermInterrupt => if f.hfi then BitVec.allOnes 64 else clearBit (BitVec.allOnes 64) hfiInterruptBit
  | .xss => if xssPresent s.cfg then (xssSupported s.cfg).setWidth 64 else 0#64
  | _ => BitVec.allOnes 64

/-- Does the register exist (R50, R51, R57, R579; the Intel PT registers by 41_cpuid_leaves.md R285, IA32_XSS by R278)?
An absent feature's register is #GP(0) by 93_implementation_defined.md U31. The spec ties IA32_UMWAIT_CONTROL to WAITPKG
and IA32_RTIT_CTL to leaf 07H EBX[25] nowhere by name (DESIGN CHOICE, assumption 26). -/
def msrPresent (s : State) (m : MsrName) : Bool :=
  match m with
  | .umwaitControl => s.cfg.features.waitpkg
  | .hwFeedbackPtr => s.cfg.features.hfi
  | .hwFeedbackConfig => s.cfg.features.hfi
  | .energyPerfBias => (leafRow s.cfg 6 0).ecx.getLsbD 3
  | .xss => xssPresent s.cfg
  | .rtitCtl => (leafRow s.cfg 7 0).ebx.getLsbD 25
  | .rtitCr3Match => (leafRow s.cfg 0x14 0).ebx.getLsbD 0
  | .rtitOutputBase => (leafRow s.cfg 0x14 0).ecx.getLsbD 0
  | .rtitOutputMaskPtrs => (leafRow s.cfg 0x14 0).ecx.getLsbD 0
  | _ => true

/-- Is a write of this value legal: no reserved bit, the register present, for IA32_RTIT_CTL a valid value (R47, R59)? -/
def msrLegal (s : State) (m : MsrName) (v : Word64) : Bool :=
  msrPresent s m && decide (v &&& ~~~(msrWritable s m) = 0#64) &&
    (match m with | .rtitCtl => Config.rtitCtlValid v | _ => true)

/-- What a register that WRMSR reaches holds. -/
def Msrs.value (r : Msrs) : MsrName → Word64
  | .umwaitControl => r.umwaitControl.setWidth 64
  | .testCtl => r.testCtl.setWidth 64
  | .hwFeedbackPtr => r.hwFeedbackPtr
  | .hwFeedbackConfig => r.hwFeedbackConfig
  | .packageThermStatus => r.packageThermStatus
  | .packageThermInterrupt => r.packageThermInterrupt
  | .biosSignId => r.biosSignId
  | .miscEnable => r.miscEnable
  | .xss => r.xss
  | .platformDcaCap => r.platformDcaCap
  | .energyPerfBias => r.energyPerfBias
  | .rtitCtl => r.rtitCtl
  | .rtitOutputBase => r.rtitOutputBase
  | .rtitOutputMaskPtrs => r.rtitOutputMaskPtrs
  | .rtitCr3Match => r.rtitCr3Match

/-- TraceEn, bit 0 of IA32_RTIT_CTL (R59). -/
def traceOn (s : State) : Bool := bit s.msr.rtitCtl 0

/-- IA32_RTIT_CTL written: the cached output blocks are dropped when TraceEn goes from 0 to 1 (51 R553). -/
def State.setRtit (s : State) (v : Word64) : State :=
  { s with
    msr := { s.msr with rtitCtl := v }
    pt := if bit v 0 && !traceOn s then PtBlocks.empty else s.pt }

/-- IA32_MISC_ENABLE written: bit 23 changes only where CPUID.01H:ECX[14] reports it, else a write keeps it (R55, R254;
DESIGN CHOICE, assumption 26). -/
def miscEnableWritten (s : State) (v : Word64) : Word64 :=
  if (cpuidAnswer s 1#32 0#32).ecx.getLsbD 14 then v else setBit v 23 (bit s.msr.miscEnable 23)

/-- An instruction of this processor's software outside the spec has run: it is no longer straight after a VM entry (51
R550; which inputs stand for one, assumption 34). -/
def State.softwareRan (s : State) : State := { s with vmx := { s.vmx with justEntered := false } }

/-- A legal write of a model-specific register. IA32_PACKAGE_THERM_STATUS[26] is cleared by 0 and kept by 1 (R52);
IA32_HW_FEEDBACK_CONFIG.Enable from 1 to 0 starts the disabling (52 R576), and what the spec leaves open of a write of the
two hardware feedback registers stands at `State.setHfiConfig` and `State.setHfiPtr`. Whether TEST_CTL and
IA32_UMWAIT_CONTROL belong to this processor alone: assumption 47. -/
def setMsr (s : State) (m : MsrName) (v : Word64) : State :=
  match m with
  | .umwaitControl => { s with msr := { s.msr with umwaitControl := v.setWidth 32 } }
  | .testCtl => { s with msr := { s.msr with testCtl := v.setWidth 32 } }
  | .hwFeedbackPtr => s.setHfiPtr v
  | .hwFeedbackConfig => s.setHfiConfig v true
  | .packageThermStatus =>
    { s with msr := { s.msr with
        packageThermStatus := setBit v hfiStatusBit (bit v hfiStatusBit && bit s.msr.packageThermStatus hfiStatusBit) } }
  | .packageThermInterrupt => { s with msr := { s.msr with packageThermInterrupt := v } }
  | .biosSignId => { s with msr := { s.msr with biosSignId := v } }
  | .miscEnable => { s with msr := { s.msr with miscEnable := miscEnableWritten s v } }
  | .xss => { s with msr := { s.msr with xss := v } }
  | .platformDcaCap => { s with msr := { s.msr with platformDcaCap := v } }
  | .energyPerfBias => { s with msr := { s.msr with energyPerfBias := v } }
  | .rtitCtl => s.setRtit v
  | .rtitOutputBase => { s with msr := { s.msr with rtitOutputBase := v } }
  | .rtitOutputMaskPtrs => { s with msr := { s.msr with rtitOutputMaskPtrs := v } }
  | .rtitCr3Match => { s with msr := { s.msr with rtitCr3Match := v } }

/-- The TME fields are written: IA32_TME_ACTIVATE not once it is locked; on activation of MKTME every KeyID uses the TME
key (R58, R66). Whether the two registers belong to this processor alone, R677 of 70_reset_and_hazards.md leaves open: the
model holds one copy, which only this input, RESET# and INIT# change (DESIGN CHOICE, assumption 47). -/
def setTme (s : State) (lock enable : Bool) (keyidBits : Nat) (algs : BitVec 16) (maxKeys : Nat) : State :=
  let s := { s with msr := { s.msr with mkTmeMaxKeys := maxKeys } }
  if s.msr.tmeLock then s
  else
    let was := s.msr.tmeEnable && decide (s.msr.mkTmeKeyidBits ≠ 0)
    { s with
      msr := { s.msr with
        tmeLock := lock, tmeEnable := enable, mkTmeKeyidBits := keyidBits, mkTmeCryptoAlgs := algs }
      keyTable := if enable && decide (keyidBits ≠ 0) && !was then [] else s.keyTable }

/-! ## Another processor's PCONFIG (R66, R67, 44_pconfig.md R366 to R368) -/

/-- May a PCONFIG of another logical processor program this KeyID now: there is one, the leaf is ready and the KeyID in
range (44 R365, R366)? The TME fields are this processor's copy (assumption 47). -/
def keyProgrammable (s : State) (id : Nat) : Bool :=
  decide (1 < s.cfg.logicalProcessors) && s.cfg.features.pconfig && s.cfg.mktmeTarget && s.msr.tmeLock &&
    s.msr.tmeEnable && decide (0 < id) && decide (id < 65536) && decide (id ≤ 2 ^ s.msr.mkTmeKeyidBits - 1) &&
    decide (id ≤ s.msr.mkTmeMaxKeys)

/-- The entry that one of PCONFIG's commands leaves (44 R367): back on the TME key, new keys, or no encryption with the keys
that were there (assumption 23). -/
def KeySlot.programmed (old k : KeySlot) : KeySlot :=
  match k.mode with
  | .encryptWithTmeKey => KeySlot.initial
  | .encryptWithKeyidKey => k
  | .noEncryption => { old with mode := .noEncryption }

/-- Another logical processor's PCONFIG programs an entry of the key table, which the processors share (R66;
70_reset_and_hazards.md R677). Whether it is one per package or per platform R66 leaves open: the model holds one table, and
every processor that shares it is among those this input stands for (DESIGN CHOICE, assumption 47). -/
def keyProgramByOther (s : State) (id : Nat) (k : KeySlot) : State :=
  if keyProgrammable s id then s.setKey id ((keySlot s.keyTable id).programmed k) else s

/-! ## RESET# and INIT# (R90 to R92, 70_reset_and_hazards.md R670, R671) -/

/-- RFLAGS with its fixed bits: bit 1 reads as 1, bits 3, 5, 15 and 63:22 as 0 (R36). -/
def fixedFlags (v : Word64) : Word64 := (v &&& 0x3F7FD5#64) ||| 2#64

/-- The registers with the bits held 0 that the spec calls reserved or whose feature is absent, and the capability
registers of the processor (93_implementation_defined.md U30, U32). -/
def Msrs.held (u : Msrs) (s : State) : Msrs :=
  { u with
    umwaitControl := u.umwaitControl &&& (msrWritable s .umwaitControl).setWidth 32
    testCtl := u.testCtl &&& (msrWritable s .testCtl).setWidth 32
    hwFeedbackPtr := u.hwFeedbackPtr &&& msrWritable s .hwFeedbackPtr
    hwFeedbackConfig := u.hwFeedbackConfig &&& msrWritable s .hwFeedbackConfig
    packageThermStatus := u.packageThermStatus &&& msrWritable s .packageThermStatus
    packageThermInterrupt := u.packageThermInterrupt &&& msrWritable s .packageThermInterrupt
    xss := u.xss &&& msrWritable s .xss
    vmxBasic := s.msr.vmxBasic, vmxProcbasedCtls2 := s.msr.vmxProcbasedCtls2, vmxExitCtls := s.msr.vmxExitCtls
    vmxTrueExitCtls := s.msr.vmxTrueExitCtls, vmxEntryCtls := s.msr.vmxEntryCtls
    vmxTrueEntryCtls := s.msr.vmxTrueEntryCtls }

/-- System registers with the reserved bits of XCR0 held 0 (R43; 93_implementation_defined.md U32). -/
def SysRegs.held (v : SysRegs) (c : Cfg) : SysRegs := { v with xcr0 := v.xcr0 &&& xcr0Legal c }

/-- Every component at a free value, brought into the form the state keeps; configuration, capability MSRs, the inputs,
the draws and, while the status bit is 0, feedback updates in progress stay (assumption 36). Whether RESET# and INIT#
serialize for later fetches is not stated: the record of overwritten bytes is emptied or kept, a free value (assumptions
17, 36). -/
def State.scrambled (s : State) : State :=
  let u := Config.unspecified s.draws
  { s with
    gpr := u.gpr, rip := u.rip, nextRip := u.rip, rflags := fixedFlags u.rflags, sys := u.sys.held s.cfg, zmm := u.zmm
    k := u.k
    msr := u.msr.held s
    tsc := u.tsc
    vmx := { u.vmx with handedOver := false, justEntered := false, sppCache := [] }
    monitor := u.monitor.map fun b => b / monitorSize s.cfg * monitorSize s.cfg
    keyTable := (u.keyTable.filter fun e => decide (0 < e.1) && decide (e.1 < 65536)).foldl
      (fun t e => setKeySlot t e.1 e.2) []
    keyTableLock := if s.cfg.logicalProcessors ≤ 1 then .unlocked else u.keyTableLock
    hfi := { u.hfi with
      inFlight := if bit (u.msr.held s).packageThermStatus hfiStatusBit then [] else s.hfi.inFlight }
    pt := PtBlocks.empty, paging := u.paging
    mem := memSetMany [] (cellsInside s.cfg u.mem), stale := if s.anyBool then [] else s.stale, draws := s.draws + 1 }

/-- RESET#: the values R90 and R670 state, the rest free. -/
def resetEvent (s : State) : State := s.scrambled.powerUp

/-- INIT#: IA32_HW_FEEDBACK_PTR and IA32_HW_FEEDBACK_CONFIG are retained, the rest is unconstrained (R671), so that a
disabling may or may not wait for its acknowledgement (assumption 36). -/
def initEvent (s : State) : State :=
  let t := s.scrambled
  { t with msr := { t.msr with
      hwFeedbackPtr := s.msr.hwFeedbackPtr, hwFeedbackConfig := s.msr.hwFeedbackConfig } }

/-! ## VM transitions (50 R500, R517, R520; 51 R541 to R557) -/

/-- The control checks of a VM entry fail (50 R520, 51 R556), or a control is 1 that the processor does not support (50
R521; for the controls of Chapter 4 DEDUCED, assumption 30). -/
def entryControlsBad (s : State) : Bool :=
  let v := s.vmx.vmcs
  (v.secondary 23 &&
    (!s.sppSupported || !v.enableEpt || decide (v.spptp.toNat / 2 ^ s.cfg.maxPhyAddr ≠ 0) ||
      (s.cfg.spptpLowChecked && decide (v.spptp.setWidth 12 ≠ 0#12)))) ||
    (v.secondary 24 &&
      (!s.guestPtSupported || !v.exitCtl.getLsbD 25 || !v.entryCtl.getLsbD 18 || !v.enableEpt)) ||
    (v.exitCtl.getLsbD 25 && !s.exitClearSupported) || (v.entryCtl.getLsbD 18 && !s.entryLoadSupported)

/-- The guest-state checks of a VM entry fail (51 R543, R556). -/
def entryGuestBad (s : State) : Bool :=
  s.loadsRtit && (traceOn s || !Config.rtitCtlValid s.vmx.vmcs.guestRtitCtl)

/-- The state the guest-state area gives: RIP, and IA32_RTIT_CTL where entry control 18 is 1 and the value legal (51 R543,
R556; 60_exceptions.md R607). -/
def State.loadGuest (s : State) : State :=
  let v := s.vmx.vmcs
  let t := if s.loadsRtit && Config.rtitCtlValid v.guestRtitCtl then s.setRtit v.guestRtitCtl else s
  { t with rip := v.guestRip }

/-- A VM entry that fails a control check: ZF, VM-instruction error 7, the next instruction (50 R520, 51 R556). Whether it
counts as a VM entry that serializes (20_memory.md R126) is not stated: the record of overwritten bytes stays, so that later
fetches see old or new bytes (DESIGN CHOICE, assumption 17). -/
def entryFailControl (s : State) (len : Nat) : State :=
  { s with
    rflags := vmFailFlags s.rflags s.any64
    vmx := { s.vmx with vmcs := { s.vmx.vmcs with vmInstructionError := 7#32 } }
    rip := ripPlus s len
    draws := s.draws + 1 }

/-- A VM entry that fails a guest-state check: the guest-state area is loaded, then as a VM exit with basic reason 33 and
bit 31 of the exit reason (51 R556, D47; 60_exceptions.md R607). -/
def entryFailGuest (s : State) : State :=
  let t := s.loadGuest.vmExit .invalidGuestState 0#64
  { t with vmx := { t.vmx with vmcs := { t.vmx.vmcs with entryFailure := true } } }

/-- A VM entry that passes: the guest's RIP and, if entry control 18 is 1, IA32_RTIT_CTL are loaded (51 R543); a VM
entry serializes (20_memory.md R126). -/
def entrySucceed (s : State) : State :=
  let t := s.loadGuest
  { t with
    vmx := { t.vmx with mode := .nonRoot, handedOver := false, justEntered := true }
    stale := [] }

/-- VMLAUNCH or VMRESUME in VMX root operation. -/
def vmEntry (s : State) (len : Nat) : State :=
  if entryControlsBad s then entryFailControl s len
  else if entryGuestBad s then entryFailGuest s
  else entrySucceed s

/-- VMFUNC, function 0: a VM exit while PT output uses guest-physical addresses (51 R551), else the new EPT; cached
sub-page permissions may be flushed (50 R517), cached output blocks are (51 R553), also where the new list equals the old
one (DESIGN CHOICE, assumption 35). -/
def vmfunc0 (s : State) (len : Nat) (ept : List EptEntry) : State :=
  if s.guestPt && traceOn s then
    let t := s.drawn.vmExit .vmfunc s.any64
    { t with vmx := { t.vmx with vmcs := { t.vmx.vmcs with exitInstructionLength := BitVec.ofNat 32 len } } }
  else
    { s with
      vmx := { s.vmx with ept := ept, sppCache := if s.anyBool then [] else s.vmx.sppCache, justEntered := false }
      pt := PtBlocks.empty
      rip := ripPlus s len
      draws := s.draws + 1 }

/-- An SMM VM exit clears IA32_RTIT_CTL whenever `G` is 1 (51 R557). -/
def smmExit (s : State) : State :=
  let t := s.drawn.vmExit .smm s.any64
  if s.guestPt then { t with msr := { t.msr with rtitCtl := 0#64 } } else t

/-- VMX state set by the VMM; a change of EPT drops the cached output blocks (51 R553). The rule says "when EPTP changes",
and the spec's VMCS holds no EPTP: a change of the list of mappings counts as one (DESIGN CHOICE, assumption 35).
`in_enclave_mode` stays: `setEnclaveMode` sets it (assumption 33). -/
def setVmx (s : State) (mode : VmxMode) (vmcs : Vmcs) (ept : List EptEntry) (apic : Option Nat) : State :=
  { s with
    vmx := { s.vmx with mode := mode, vmcs := vmcs, ept := ept, apicAccessPage := apic, justEntered := false }
    pt := if ept = s.vmx.ept then s.pt else PtBlocks.empty }

/-- The host supplies `in_enclave_mode` (50 R515, D30). That it changes by this input alone (RESET# and INIT# aside), that no
VM entry, VM exit or exception changes it, and that the input counts as an instruction of this processor's software, is a
DESIGN CHOICE (assumption 33). -/
def setEnclaveMode (s : State) (on : Bool) : State :=
  { s.softwareRan with vmx := { s.softwareRan.vmx with enclaveMode := on } }

/-! ## Intel PT output (51 R540, R545 to R553) -/

/-- Is PT output translated by EPT now (51 R545)? -/
def ptGuest (s : State) : Bool := decide (s.vmx.mode = .nonRoot) && s.guestPt

/-- The IDT-vectoring field after an exit caused by PT output: straight after a VM entry the entry's interruption
information (51 R550); else no rule gives it, a free value (assumption 34). -/
def ptVectoring (s : State) : Word32 :=
  if s.vmx.justEntered then s.vmx.vmcs.entryInterruptionInfo else s.any64.setWidth 32

/-- A VM exit caused by PT output: asynchronous (bit 16), and for an EPT violation bit 7 clear, as there is no guest-linear
address (51 R548, R549). That field is not meaningful then, and of the two other kinds no rule gives it or bit 7: free
values (assumption 34). Nor does a rule give the guest-physical-address field: that an EPT violation and an APIC-access
exit leave the output address there is a DESIGN CHOICE (assumption 34). -/
def ptExit (s : State) (reason : ExitReason) (gpa : Nat) : State :=
  let qual := setBit s.any64 16 true
  let t := s.drawn.drawn.drawn.vmExit reason (if reason = .eptViolation then clearBit qual 7 else qual)
  { t with vmx := { t.vmx with vmcs := { t.vmx.vmcs with
      guestLinearAddress := s.drawn.any64
      guestPhysicalAddress := BitVec.ofNat 64 gpa
      idtVectoringInfo := ptVectoring s.drawn.drawn } } }

/-- An EPT misconfiguration found by PT output has no exit qualification (51 R548). -/
def ptMisconfigured (s : State) : State :=
  let t := s.drawn.vmExit .eptMisconfiguration 0#64
  { t with vmx := { t.vmx with vmcs := { t.vmx.vmcs with idtVectoringInfo := ptVectoring s } } }

/-- The physical address of a PT output address, or the state after the VM exit it causes; sub-page permissions are
ignored, the APIC-access page always exits (51 R545, R547, R551). A read needs EPT's read permission, a write its
accumulated write bit. -/
def ptTranslate (s : State) (k : AccessKind) (addr : Nat) : Except State Nat :=
  if ptGuest s then
    match eptFind s addr with
    | none => .error (ptExit s .eptViolation addr)
    | some e =>
      let pa := s.physical (e.paBase + (addr - e.gpaBase))
      if e.misconfigured then .error (ptMisconfigured s)
      else if (k = .read ∧ e.read = false) ∨ (k = .write ∧ e.accW = false) then .error (ptExit s .eptViolation addr)
      else if s.onApicPage pa then .error (ptExit s .apicAccess addr)
      else .ok pa
  else .ok (s.physical addr)

/-- Does a block hold this physical address? -/
def PtBlock.covers (b : PtBlock) (pa : Nat) : Bool := decide (b.pa ≤ pa) && decide (pa < b.pa + b.len)

/-- Trace bytes are written, one translation per byte address, into the cached current block. Nothing is while TraceEn is 0,
nor before the first lookups are done (51 R540, R553); a byte outside the current block is dropped. -/
def ptOutput (s : State) (addr : Nat) (bytes : List Byte) : State :=
  match s.pt.current with
  | some b =>
    if traceOn s && s.pt.started then
      match (chunkBytes addr bytes.length).mapM (ptTranslate s .write) with
      | .error t => t
      | .ok pas => s.storeByAgent ((pas.zip bytes).filter fun x => b.covers x.1)
    else s
  | none => s

/-- A ToPA table is read: nothing but the VM exit it may cause is visible (51 R540, R547, D46). -/
def ptRead (s : State) (addr len : Nat) : State :=
  if traceOn s then
    match (chunkBytes addr len).mapM (ptTranslate s .read) with
    | .error t => t
    | .ok _ => s
  else s

/-- The length of the output block at an address: what is left of the output buffer segment or, where EPT translates, of
the EPT page, whichever is less (51 R553). -/
def ptBlockLen (s : State) (addr len : Nat) : Nat :=
  match ptGuest s, eptFind s addr with
  | true, some e => min len (e.gpaBase + e.size.bytes - addr)
  | _, _ => len

/-- The current block is filled: output moves on to the next, if that is cached; the block after it is not looked up yet
(51 R553). -/
def PtBlocks.advanced (p : PtBlocks) : PtBlocks :=
  match p.current, p.next with
  | some _, some n => { p with current := some n, next := none }
  | _, _ => p

/-- What of a STOP entry's region is left to look up: none means that no such entry was met, length 0 that lookup has ceased
(51 R553). -/
def PtBlocks.ceased (rest : Option (Nat × Nat)) : Bool :=
  match rest with
  | some (_, 0) => true
  | _ => false

/-- A block's translation is cached, the current one's first. Tracing commences with the second, or with a first one that
ends the region of a ToPA entry with the STOP bit, since no lookup follows it (51 R553). -/
def PtBlocks.cached (p : PtBlocks) (b : PtBlock) (rest : Option (Nat × Nat)) : PtBlocks :=
  match p.current with
  | none => { p with current := some b, started := p.started || ceased rest, stopRest := rest }
  | some _ => { p with next := some b, started := true, stopRest := rest }

/-- Is there a block to look up: one of the two is not cached, and lookup has not ceased at a STOP bit (51 R553)? -/
def PtBlocks.wanted (p : PtBlocks) : Bool := !ceased p.stopRest && (p.current.isNone || p.next.isNone)

/-- The segment whose first block is looked up: the rest of a STOP entry's region before anything else, since "further
entries beyond that entry" are not looked up (51 R553). -/
def PtBlocks.segment (p : PtBlocks) (addr len : Nat) (stop : Bool) : Nat × Nat × Bool :=
  match p.stopRest with
  | some (a, l) => (a, l, true)
  | none => (addr, len, stop)

/-- An output block is looked up where one is wanted; the lookup may cause a VM exit, and its address is cached if it does
not. Trace bytes can reach the current block while the next one's lookup, or the exit it needs, has not happened yet (51
R553). When it comes is the agent's choice: that guest instructions may run between a VM entry or another enabling of PT
and the first lookups, which R552 and R558 row 8 put before them and R553 (b) does not demand, is a DESIGN CHOICE
(assumption 34). -/
def ptLookup (s : State) (addr len : Nat) (stop : Bool) : State :=
  if traceOn s && s.pt.wanted then
    let (a, l, st) := s.pt.segment addr len stop
    match ptTranslate s .write a with
    | .error t => t
    | .ok pa =>
      let n := ptBlockLen s a l
      { s with pt := s.pt.cached { pa := pa, len := n } (if st then some (a + n, l - n) else none) }
  else s

/-- Output goes on in the next block (51 R553). -/
def ptAdvance (s : State) : State := if traceOn s then { s with pt := s.pt.advanced } else s

/-- PT output fills the page-modification log (51 R547, R548). The guest-physical-address field is then a free value: no
rule gives it (assumption 34). -/
def ptPmlFull (s : State) : State :=
  if traceOn s && ptGuest s then ptExit s.drawn .pmlLogFull s.any64.toNat else s

/-- IA32_RTIT_CTL is loaded by another enable flow (51 R553): XRSTORS where IA32_XSS enables the PT state (41_cpuid_leaves.md
R278), with #GP(0) for a value that WRMSR refuses; the MSR-load area of a VM transition and RSM load legal values, and a
load of another value does not happen (PRESUMED, assumption 34). -/
def loadRtit (s : State) (via : RtitLoad) (v : Word64) : Host.Outcome State Fault Refusal :=
  let t := if msrLegal s .rtitCtl v then s.setRtit v else s
  match via with
  | .msrLoadArea => .next t
  | .rsm => .next t.softwareRan
  | .xrstors =>
    if !bit s.msr.xss 8 then .next s.softwareRan
    else if msrLegal s .rtitCtl v then .next t.softwareRan
    else finish (.error (raise s .gp))

/-! ## Split locks (53 R591, R592) -/

/-- The write of a locked access. -/
def Access.lockedWrite : Access := { Access.store with locked := true }

/-- A locked access of an instruction outside the spec: checked like any write, with #AC(0) where it splits a cache line
and TEST_CTL[29] is 1, after the address-form and page checks; then its bytes are stored (R591, D51). TEST_CTL[31] has no effect:
that a split access it leaves without LOCK#, which need not be atomic, stores its bytes in one step too is a DESIGN CHOICE
(assumption 39). -/
def lockedAccess (s : State) (seg : Seg) (off : Word64) (bytes : List Byte) : Host.Outcome State Fault Refusal :=
  finish ((writeMem s Access.lockedWrite seg off bytes).map State.softwareRan)

/-! ## One input -/

/-- What an input does. The two inputs under which an instruction runs, `step` takes itself. VM entry and INVEPT are host
events of VMX root operation, VMFUNC and SMM exits of a guest; they are refused elsewhere (50 R500). -/
def applyInput (i : Input) (s : State) : Host.Outcome State Fault Refusal :=
  match i with
  | .instruction => .next s
  | .storeByAgent pa bytes => .next (s.storeByAgent (cellsAt pa bytes))
  | .storeMeanwhile pa bytes => .next (s.storeByAgent (cellsAt pa bytes))
  | .hfiUpdate target rows ts cp ce => .next (hfiUpdate s target rows ts cp ce)
  | .hfiAcknowledge => .next (hfiAcknowledge s)
  | .senter => .next (senter s)
  | .wrmsr m v => if msrLegal s m v then .next (setMsr s m v).softwareRan else finish (.error (raise s .gp))
  | .setTme l e b a k => .next (setTme s l e b a k).softwareRan
  | .reset => .next (resetEvent s)
  | .init => .next (initEvent s)
  | .setSys v => .next { s.softwareRan with sys := v.held s.cfg }
  | .setPaging p => .next { s.softwareRan with paging := p }
  | .setVmx mode vmcs ept apic => .next (setVmx s mode vmcs ept apic)
  | .vmEntry len => if s.vmx.mode = .root then .next (vmEntry s len) else .refused .outsideVmxLayer
  | .hostResumes rip => .next { s with rip := rip, vmx := { s.vmx with handedOver := false } }
  | .invept =>
    if s.vmx.mode = .root then .next { s with vmx := { s.vmx with sppCache := [] } } else .refused .outsideVmxLayer
  | .vmfunc0 len ept => if s.vmx.mode = .nonRoot then .next (vmfunc0 s len ept) else .refused .outsideVmxLayer
  | .ptOutput addr bytes => .next (ptOutput s addr bytes)
  | .ptRead addr len => .next (ptRead s addr len)
  | .ptLookup addr len stop => .next (ptLookup s addr len stop)
  | .ptAdvance => .next (ptAdvance s)
  | .loadRtit via v => loadRtit s via v
  | .ptPmlFull => .next (ptPmlFull s)
  | .smmExit => if s.vmx.mode = .nonRoot then .next (smmExit s) else .refused .outsideVmxLayer
  | .lockedAccess seg off bytes => lockedAccess s seg off bytes
  | .setEnclaveMode on => .next (setEnclaveMode s on)
  | .keyProgram id k => .next (keyProgramByOther s id k)
  | .keyLock l => .next { s with keyTableLock := if s.cfg.logicalProcessors ≤ 1 then s.keyTableLock else l }

end Sys2Proof.Machine
end

