-- ==== Sys2Proof/Machine/Step.lean ====
section
/-! DEFINITION. One step: an input from outside, or one instruction (10_state.md R34; 50 R500). -/

namespace Sys2Proof.Machine

/-- One instruction: time passes, the bytes at RIP are decoded, the instruction runs. After a VM exit control is with
the host and no instruction of the spec runs. -/
def runInstruction (s : State) : Host.Outcome State Fault Refusal :=
  if s.vmx.handedOver then .fault .handedToHost
  else
    match fetchDecode s.tick with
    | .ok (i, len) => exec i (s.tick.begin len)
    | .error e => finish (.error e)

/-- One step: the oldest input, or one instruction where there is none. Under `storeMeanwhile` one instruction runs between
the two parts of another agent's store (20_memory.md R108). -/
def step (s : State) : Host.Outcome State Fault Refusal :=
  match s.inputs with
  | [] => runInstruction s
  | .instruction :: rest => runInstruction { s with inputs := rest }
  | .storeMeanwhile pa bytes :: rest =>
    landAfter (landing s false pa bytes) (runInstruction ({ s with inputs := rest }.storeEarly pa bytes))
  | i :: rest => applyInput i { s.tick with inputs := rest }

/-- The state with an instruction's bytes where `step` fetches next (15 bytes, those above `nbits` zero), nothing
pending before it. -/
def State.withFetchWord (s : State) (nbits w : Nat) : State :=
  { s with
    inputs := []
    stale := []
    vmx := { s.vmx with handedOver := false }
    mem := memSetMany s.mem (fetchCells s (tableBytes nbits w)) }

end Sys2Proof.Machine
end

