-- ==== Sys2Proof/Safety.lean ====
section
/-! DEFINITION. What claims about the machine are stated in: the invariant every step keeps, what a completed instruction
leaves unchanged, which prefixes and which row of the table an instruction has, and memory without translation. -/

namespace Sys2Proof.Machine

/-! ## The invariant -/

/-- The key table's canonical form: KeyIDs strictly rising, each of 16 bits and not 0 ("KeyID 0 uses TME policy and
cannot be programmed", 10_state.md R66), no entry as on activation. -/
def KeyTable.wf (t : List (Nat × KeySlot)) : Prop :=
  t.Pairwise (fun x y => x.1 < y.1) ∧ ∀ e ∈ t, 0 < e.1 ∧ e.1 < 65536 ∧ e.2 ≠ KeySlot.initial

/-- The bits that the spec holds 0: those of every register WRMSR reaches that are reserved or belong to an absent feature
(93_implementation_defined.md U30, U32; 10_state.md R48 to R56), and those of XCR0 that CPUID does not report (R43). -/
def State.ReservedZero (s : State) : Prop :=
  (∀ m, s.msr.value m &&& ~~~(msrWritable s m) = 0#64) ∧ s.sys.xcr0 &&& ~~~(xcr0Legal s.cfg) = 0#64

/-- What holds of every state a step leaves: memory and the key table in canonical form, no byte of memory beyond the
physical address space (20_memory.md R101), the fixed bits of RFLAGS (R36), the monitored block aligned to its size
(45_waitpkg.md R382), reserved bits 0, the lock of a key table that no other logical processor can hold unlocked (R67,
D37), no feedback update in progress while the status bit is 1 (52_hardware_feedback_interface.md R576). -/
def State.Inv (s : State) : Prop :=
  Memory.wf s.mem ∧ (∀ c ∈ s.mem, c.1 < 2 ^ s.cfg.maxPhyAddr) ∧ KeyTable.wf s.keyTable ∧
    fixedFlags s.rflags = s.rflags ∧ (∀ b, s.monitor = some b → b % monitorSize s.cfg = 0) ∧ s.ReservedZero ∧
    (s.cfg.logicalProcessors ≤ 1 → s.keyTableLock = .unlocked) ∧
    (bit s.msr.packageThermStatus hfiStatusBit = true → s.hfi.inFlight = [])

/-! ## Frames -/

/-- Every byte of physical memory reads as before. -/
def SameMemory (s t : State) : Prop := ∀ a, t.byte a = s.byte a

/-- Every byte of physical memory outside these addresses reads as before. -/
def SameMemoryBut (pas : List Nat) (s t : State) : Prop := ∀ a, a ∉ pas → t.byte a = s.byte a

/-- Every general register is as before. -/
def SameGprs (s t : State) : Prop := ∀ r, t.gpr64 r = s.gpr64 r

/-- Every vector register is as before. -/
def SameVecs (s t : State) : Prop := ∀ r, t.vec r = s.vec r

/-- Every vector register but one is as before. -/
def SameVecsBut (d : VReg) (s t : State) : Prop := ∀ r, r ≠ d → t.vec r = s.vec r

/-- Every opmask register is as before. -/
def SameMasks (s t : State) : Prop := ∀ r, t.opmask r = s.opmask r

/-- Everything no instruction writes is as before: configuration, system registers, the hardware feedback and Intel PT
state, the inputs, the key table's lock, VMX state but for cached sub-page permissions (invisible, 10_state.md R69). -/
def SameSystem (s t : State) : Prop :=
  t.cfg = s.cfg ∧ t.sys = s.sys ∧ t.hfi = s.hfi ∧ t.pt = s.pt ∧ t.inputs = s.inputs ∧
    t.keyTableLock = s.keyTableLock ∧ t.vmx = { s.vmx with sppCache := t.vmx.sppCache }

/-- The frame of an instruction that writes registers only: memory, every MSR, the TSC, the monitor, the key table and
the system state are as before. -/
def FrameRegs (s t : State) : Prop :=
  SameMemory s t ∧ t.msr = s.msr ∧ t.tsc = s.tsc ∧ t.monitor = s.monitor ∧ t.keyTable = s.keyTable ∧ SameSystem s t

/-- The frame of an instruction whose destination is one vector register: nothing else changes, RIP goes to the next
instruction. -/
def FrameVec (d : VReg) (s t : State) : Prop :=
  SameVecsBut d s t ∧ SameGprs s t ∧ SameMasks s t ∧ t.rflags = s.rflags ∧ FrameRegs s t ∧ t.rip = s.nextRip

/-- The frame of an instruction whose destination is one opmask register. -/
def FrameMask (d : KReg) (s t : State) : Prop :=
  SameVecs s t ∧ SameGprs s t ∧ (∀ r, r ≠ d → t.opmask r = s.opmask r) ∧ t.rflags = s.rflags ∧ FrameRegs s t ∧
    t.rip = s.nextRip

/-- The frame of an instruction that stores to memory at these addresses and nothing else. Its own monitor may be
triggered (45_waitpkg.md R383). -/
def FrameStore (pas : List Nat) (s t : State) : Prop :=
  SameMemoryBut pas s t ∧ SameVecs s t ∧ SameGprs s t ∧ SameMasks s t ∧ t.rflags = s.rflags ∧ t.msr = s.msr ∧
    t.tsc = s.tsc ∧ (t.monitor = s.monitor ∨ t.monitor = none) ∧ t.keyTable = s.keyTable ∧ SameSystem s t ∧
    t.rip = s.nextRip

/-- The elements of a vector of length `vl`, and zero above (00_scope.md R12, 10_state.md R41). -/
def HasElems (w vl : Nat) (v : Vec) (f : Nat → BitVec w) : Prop := (∀ j, j < vl / w → elem w v j = f j) ∧ v.toNat < 2 ^ vl

/-- What an EVEX instruction leaves in its destination under its mask (00_scope.md R16; 60_exceptions.md R616): `f` at
the active elements, 0 at the others with zeroing, else the old element; zero above the vector length. -/
def MaskedElems (w vl : Nat) (s : State) (e : Evex) (v : Vec) (f : Nat → BitVec w) : Prop :=
  HasElems w vl v fun j => if active s e.aaa j then f j else if e.z then 0 else elem w (s.vec e.reg) j

/-! ## Memory without translation -/

/-- 64-bit mode, linear addresses are physical addresses (cut to `MAXPHYADDR` bits), no second-level translation, no
alignment check. -/
def State.Flat (s : State) : Prop :=
  s.mode = .long ∧ s.paging = none ∧ s.eptOn = false ∧ s.alignCheck = false

/-- Every one of `n` bytes from a linear address is canonical. -/
def CanonicalRange (s : State) (la : Word64) (n : Nat) : Prop :=
  ∀ i, i < n → canonical s.cfg.linAddrBits (la + BitVec.ofNat 64 i) = true

/-! ## Instructions -/

end Sys2Proof.Machine

namespace Sys2Proof

open Sys2Proof.Machine

/-- The exception #UD, which has no error code (60_exceptions.md R601). -/
def Machine.Fault.undefinedOpcode : Fault := .exception .ud none none

/-- The legacy prefixes an instruction carries. -/
def Instr.pfx : Instr → Pfx
  | .cpuid p => p
  | .cldemote p _ => p
  | .movdiri32 p _ _ => p
  | .movdiri64 p _ _ => p
  | .movdir64b p _ _ => p
  | .wbnoinvd p => p
  | .pconfig p => p
  | .tpause p _ => p
  | .umonitor p _ => p
  | .umwait p _ => p
  | .gf2p8affineqb p _ _ _ => p
  | .vgf2p8affineqbVex128 v _ _ => v.pfx
  | .vgf2p8affineqbVex256 v _ _ => v.pfx
  | .vgf2p8affineqb128 e _ _ => e.pfx
  | .vgf2p8affineqb256 e _ _ => e.pfx
  | .vgf2p8affineqb512 e _ _ => e.pfx
  | .gf2p8affineinvqb p _ _ _ => p
  | .vgf2p8affineinvqbVex128 v _ _ => v.pfx
  | .vgf2p8affineinvqbVex256 v _ _ => v.pfx
  | .vgf2p8affineinvqb128 e _ _ => e.pfx
  | .vgf2p8affineinvqb256 e _ _ => e.pfx
  | .vgf2p8affineinvqb512 e _ _ => e.pfx
  | .gf2p8mulb p _ _ => p
  | .vgf2p8mulbVex128 v _ => v.pfx
  | .vgf2p8mulbVex256 v _ => v.pfx
  | .vgf2p8mulb128 e _ => e.pfx
  | .vgf2p8mulb256 e _ => e.pfx
  | .vgf2p8mulb512 e _ => e.pfx
  | .vaesdecVex256 v _ => v.pfx
  | .vaesdec128 e _ => e.pfx
  | .vaesdec256 e _ => e.pfx
  | .vaesdec512 e _ => e.pfx
  | .vaesdeclastVex256 v _ => v.pfx
  | .vaesdeclast128 e _ => e.pfx
  | .vaesdeclast256 e _ => e.pfx
  | .vaesdeclast512 e _ => e.pfx
  | .vaesencVex256 v _ => v.pfx
  | .vaesenc128 e _ => e.pfx
  | .vaesenc256 e _ => e.pfx
  | .vaesenc512 e _ => e.pfx
  | .vaesenclastVex256 v _ => v.pfx
  | .vaesenclast128 e _ => e.pfx
  | .vaesenclast256 e _ => e.pfx
  | .vaesenclast512 e _ => e.pfx
  | .vpclmulqdqVex256 v _ _ => v.pfx
  | .vpclmulqdq128 e _ _ => e.pfx
  | .vpclmulqdq256 e _ _ => e.pfx
  | .vpclmulqdq512 e _ _ => e.pfx
  | .vpcompressbMem128 e _ => e.pfx
  | .vpcompressbReg128 e _ => e.pfx
  | .vpcompressbMem256 e _ => e.pfx
  | .vpcompressbReg256 e _ => e.pfx
  | .vpcompressbMem512 e _ => e.pfx
  | .vpcompressbReg512 e _ => e.pfx
  | .vpcompresswMem128 e _ => e.pfx
  | .vpcompresswReg128 e _ => e.pfx
  | .vpcompresswMem256 e _ => e.pfx
  | .vpcompresswReg256 e _ => e.pfx
  | .vpcompresswMem512 e _ => e.pfx
  | .vpcompresswReg512 e _ => e.pfx
  | .vpexpandbMem128 e _ => e.pfx
  | .vpexpandbReg128 e _ => e.pfx
  | .vpexpandbMem256 e _ => e.pfx
  | .vpexpandbReg256 e _ => e.pfx
  | .vpexpandbMem512 e _ => e.pfx
  | .vpexpandbReg512 e _ => e.pfx
  | .vpexpandwMem128 e _ => e.pfx
  | .vpexpandwReg128 e _ => e.pfx
  | .vpexpandwMem256 e _ => e.pfx
  | .vpexpandwReg256 e _ => e.pfx
  | .vpexpandwMem512 e _ => e.pfx
  | .vpexpandwReg512 e _ => e.pfx
  | .vpshldw128 e _ _ => e.pfx
  | .vpshldw256 e _ _ => e.pfx
  | .vpshldw512 e _ _ => e.pfx
  | .vpshldd128 e _ _ => e.pfx
  | .vpshldd256 e _ _ => e.pfx
  | .vpshldd512 e _ _ => e.pfx
  | .vpshldq128 e _ _ => e.pfx
  | .vpshldq256 e _ _ => e.pfx
  | .vpshldq512 e _ _ => e.pfx
  | .vpshldvw128 e _ => e.pfx
  | .vpshldvw256 e _ => e.pfx
  | .vpshldvw512 e _ => e.pfx
  | .vpshldvd128 e _ => e.pfx
  | .vpshldvd256 e _ => e.pfx
  | .vpshldvd512 e _ => e.pfx
  | .vpshldvq128 e _ => e.pfx
  | .vpshldvq256 e _ => e.pfx
  | .vpshldvq512 e _ => e.pfx
  | .vpshrdw128 e _ _ => e.pfx
  | .vpshrdw256 e _ _ => e.pfx
  | .vpshrdw512 e _ _ => e.pfx
  | .vpshrdd128 e _ _ => e.pfx
  | .vpshrdd256 e _ _ => e.pfx
  | .vpshrdd512 e _ _ => e.pfx
  | .vpshrdq128 e _ _ => e.pfx
  | .vpshrdq256 e _ _ => e.pfx
  | .vpshrdq512 e _ _ => e.pfx
  | .vpshrdvw128 e _ => e.pfx
  | .vpshrdvw256 e _ => e.pfx
  | .vpshrdvw512 e _ => e.pfx
  | .vpshrdvd128 e _ => e.pfx
  | .vpshrdvd256 e _ => e.pfx
  | .vpshrdvd512 e _ => e.pfx
  | .vpshrdvq128 e _ => e.pfx
  | .vpshrdvq256 e _ => e.pfx
  | .vpshrdvq512 e _ => e.pfx
  | .vpdpbusd128 e _ => e.pfx
  | .vpdpbusd256 e _ => e.pfx
  | .vpdpbusd512 e _ => e.pfx
  | .vpdpbusds128 e _ => e.pfx
  | .vpdpbusds256 e _ => e.pfx
  | .vpdpbusds512 e _ => e.pfx
  | .vpdpwssd128 e _ => e.pfx
  | .vpdpwssd256 e _ => e.pfx
  | .vpdpwssd512 e _ => e.pfx
  | .vpdpwssds128 e _ => e.pfx
  | .vpdpwssds256 e _ => e.pfx
  | .vpdpwssds512 e _ => e.pfx
  | .vpopcntb128 e _ => e.pfx
  | .vpopcntb256 e _ => e.pfx
  | .vpopcntb512 e _ => e.pfx
  | .vpopcntw128 e _ => e.pfx
  | .vpopcntw256 e _ => e.pfx
  | .vpopcntw512 e _ => e.pfx
  | .vpopcntd128 e _ => e.pfx
  | .vpopcntd256 e _ => e.pfx
  | .vpopcntd512 e _ => e.pfx
  | .vpopcntq128 e _ => e.pfx
  | .vpopcntq256 e _ => e.pfx
  | .vpopcntq512 e _ => e.pfx
  | .vpshufbitqmb128 e _ => e.pfx
  | .vpshufbitqmb256 e _ => e.pfx
  | .vpshufbitqmb512 e _ => e.pfx

/-- The row of the table a vector instruction has; none for the others. -/
def Instr.vecRow : Instr → Option VecRow
  | .cpuid _ => none
  | .cldemote _ _ => none
  | .movdiri32 _ _ _ => none
  | .movdiri64 _ _ _ => none
  | .movdir64b _ _ _ => none
  | .wbnoinvd _ => none
  | .pconfig _ => none
  | .tpause _ _ => none
  | .umonitor _ _ => none
  | .umwait _ _ => none
  | .gf2p8affineqb _ _ _ _ => some (sseRow [.gfni])
  | .vgf2p8affineqbVex128 _ _ _ => some (vexRow [.avx, .gfni] 128)
  | .vgf2p8affineqbVex256 _ _ _ => some (vexRow [.avx, .gfni] 256)
  | .vgf2p8affineqb128 _ _ _ => some (evexRow [.avx512vl, .gfni] 128 8 8 false true .mergeZero)
  | .vgf2p8affineqb256 _ _ _ => some (evexRow [.avx512vl, .gfni] 256 8 8 false true .mergeZero)
  | .vgf2p8affineqb512 _ _ _ => some (evexRow [.avx512f, .gfni] 512 8 8 false true .mergeZero)
  | .gf2p8affineinvqb _ _ _ _ => some (sseRow [.gfni])
  | .vgf2p8affineinvqbVex128 _ _ _ => some (vexRow [.avx, .gfni] 128)
  | .vgf2p8affineinvqbVex256 _ _ _ => some (vexRow [.avx, .gfni] 256)
  | .vgf2p8affineinvqb128 _ _ _ => some (evexRow [.avx512vl, .gfni] 128 8 8 false true .mergeZero)
  | .vgf2p8affineinvqb256 _ _ _ => some (evexRow [.avx512vl, .gfni] 256 8 8 false true .mergeZero)
  | .vgf2p8affineinvqb512 _ _ _ => some (evexRow [.avx512f, .gfni] 512 8 8 false true .mergeZero)
  | .gf2p8mulb _ _ _ => some (sseRow [.gfni])
  | .vgf2p8mulbVex128 _ _ => some (vexRow [.avx, .gfni] 128)
  | .vgf2p8mulbVex256 _ _ => some (vexRow [.avx, .gfni] 256)
  | .vgf2p8mulb128 _ _ => some (evexRow [.avx512vl, .gfni] 128 8 0 true true .mergeZero)
  | .vgf2p8mulb256 _ _ => some (evexRow [.avx512vl, .gfni] 256 8 0 true true .mergeZero)
  | .vgf2p8mulb512 _ _ => some (evexRow [.avx512f, .gfni] 512 8 0 true true .mergeZero)
  | .vaesdecVex256 _ _ => some (vexRow [.vaes] 256)
  | .vaesdec128 _ _ => some (evexRow [.avx512vl, .vaes] 128 64 0 false true .none)
  | .vaesdec256 _ _ => some (evexRow [.avx512vl, .vaes] 256 64 0 false true .none)
  | .vaesdec512 _ _ => some (evexRow [.avx512f, .vaes] 512 64 0 false true .none)
  | .vaesdeclastVex256 _ _ => some (vexRow [.vaes] 256)
  | .vaesdeclast128 _ _ => some (evexRow [.avx512vl, .vaes] 128 64 0 false true .none)
  | .vaesdeclast256 _ _ => some (evexRow [.avx512vl, .vaes] 256 64 0 false true .none)
  | .vaesdeclast512 _ _ => some (evexRow [.avx512f, .vaes] 512 64 0 false true .none)
  | .vaesencVex256 _ _ => some (vexRow [.vaes] 256)
  | .vaesenc128 _ _ => some (evexRow [.avx512vl, .vaes] 128 64 0 false true .none)
  | .vaesenc256 _ _ => some (evexRow [.avx512vl, .vaes] 256 64 0 false true .none)
  | .vaesenc512 _ _ => some (evexRow [.avx512f, .vaes] 512 64 0 false true .none)
  | .vaesenclastVex256 _ _ => some (vexRow [.vaes] 256)
  | .vaesenclast128 _ _ => some (evexRow [.avx512vl, .vaes] 128 64 0 false true .none)
  | .vaesenclast256 _ _ => some (evexRow [.avx512vl, .vaes] 256 64 0 false true .none)
  | .vaesenclast512 _ _ => some (evexRow [.avx512f, .vaes] 512 64 0 false true .none)
  | .vpclmulqdqVex256 _ _ _ => some (vexRow [.vpclmulqdq] 256)
  | .vpclmulqdq128 _ _ _ => some (evexRow [.avx512vl, .vpclmulqdq] 128 64 0 false true .none)
  | .vpclmulqdq256 _ _ _ => some (evexRow [.avx512vl, .vpclmulqdq] 256 64 0 false true .none)
  | .vpclmulqdq512 _ _ _ => some (evexRow [.avx512f, .vpclmulqdq] 512 64 0 false true .none)
  | .vpcompressbMem128 _ _ => some (packRow [.vbmi2, .avx512vl] 128 8 .mergeOnly)
  | .vpcompressbReg128 _ _ => some (packRow [.vbmi2, .avx512vl] 128 8 .mergeZero)
  | .vpcompressbMem256 _ _ => some (packRow [.vbmi2, .avx512vl] 256 8 .mergeOnly)
  | .vpcompressbReg256 _ _ => some (packRow [.vbmi2, .avx512vl] 256 8 .mergeZero)
  | .vpcompressbMem512 _ _ => some (packRow [.vbmi2] 512 8 .mergeOnly)
  | .vpcompressbReg512 _ _ => some (packRow [.vbmi2] 512 8 .mergeZero)
  | .vpcompresswMem128 _ _ => some (packRow [.vbmi2, .avx512vl] 128 16 .mergeOnly)
  | .vpcompresswReg128 _ _ => some (packRow [.vbmi2, .avx512vl] 128 16 .mergeZero)
  | .vpcompresswMem256 _ _ => some (packRow [.vbmi2, .avx512vl] 256 16 .mergeOnly)
  | .vpcompresswReg256 _ _ => some (packRow [.vbmi2, .avx512vl] 256 16 .mergeZero)
  | .vpcompresswMem512 _ _ => some (packRow [.vbmi2] 512 16 .mergeOnly)
  | .vpcompresswReg512 _ _ => some (packRow [.vbmi2] 512 16 .mergeZero)
  | .vpexpandbMem128 _ _ => some (packRow [.vbmi2, .avx512vl] 128 8 .mergeZero)
  | .vpexpandbReg128 _ _ => some (packRow [.vbmi2, .avx512vl] 128 8 .mergeZero)
  | .vpexpandbMem256 _ _ => some (packRow [.vbmi2, .avx512vl] 256 8 .mergeZero)
  | .vpexpandbReg256 _ _ => some (packRow [.vbmi2, .avx512vl] 256 8 .mergeZero)
  | .vpexpandbMem512 _ _ => some (packRow [.vbmi2] 512 8 .mergeZero)
  | .vpexpandbReg512 _ _ => some (packRow [.vbmi2] 512 8 .mergeZero)
  | .vpexpandwMem128 _ _ => some (packRow [.vbmi2, .avx512vl] 128 16 .mergeZero)
  | .vpexpandwReg128 _ _ => some (packRow [.vbmi2, .avx512vl] 128 16 .mergeZero)
  | .vpexpandwMem256 _ _ => some (packRow [.vbmi2, .avx512vl] 256 16 .mergeZero)
  | .vpexpandwReg256 _ _ => some (packRow [.vbmi2, .avx512vl] 256 16 .mergeZero)
  | .vpexpandwMem512 _ _ => some (packRow [.vbmi2] 512 16 .mergeZero)
  | .vpexpandwReg512 _ _ => some (packRow [.vbmi2] 512 16 .mergeZero)
  | .vpshldw128 _ _ _ => some (evexRow [.vbmi2, .avx512vl] 128 16 0 true true .mergeZero)
  | .vpshldw256 _ _ _ => some (evexRow [.vbmi2, .avx512vl] 256 16 0 true true .mergeZero)
  | .vpshldw512 _ _ _ => some (evexRow [.vbmi2] 512 16 0 true true .mergeZero)
  | .vpshldd128 _ _ _ => some (evexRow [.vbmi2, .avx512vl] 128 32 4 true true .mergeZero)
  | .vpshldd256 _ _ _ => some (evexRow [.vbmi2, .avx512vl] 256 32 4 true true .mergeZero)
  | .vpshldd512 _ _ _ => some (evexRow [.vbmi2] 512 32 4 true true .mergeZero)
  | .vpshldq128 _ _ _ => some (evexRow [.vbmi2, .avx512vl] 128 64 8 true true .mergeZero)
  | .vpshldq256 _ _ _ => some (evexRow [.vbmi2, .avx512vl] 256 64 8 true true .mergeZero)
  | .vpshldq512 _ _ _ => some (evexRow [.vbmi2] 512 64 8 true true .mergeZero)
  | .vpshldvw128 _ _ => some (evexRow [.vbmi2, .avx512vl] 128 16 0 true true .mergeZero)
  | .vpshldvw256 _ _ => some (evexRow [.vbmi2, .avx512vl] 256 16 0 true true .mergeZero)
  | .vpshldvw512 _ _ => some (evexRow [.vbmi2] 512 16 0 true true .mergeZero)
  | .vpshldvd128 _ _ => some (evexRow [.vbmi2, .avx512vl] 128 32 4 true true .mergeZero)
  | .vpshldvd256 _ _ => some (evexRow [.vbmi2, .avx512vl] 256 32 4 true true .mergeZero)
  | .vpshldvd512 _ _ => some (evexRow [.vbmi2] 512 32 4 true true .mergeZero)
  | .vpshldvq128 _ _ => some (evexRow [.vbmi2, .avx512vl] 128 64 8 true true .mergeZero)
  | .vpshldvq256 _ _ => some (evexRow [.vbmi2, .avx512vl] 256 64 8 true true .mergeZero)
  | .vpshldvq512 _ _ => some (evexRow [.vbmi2] 512 64 8 true true .mergeZero)
  | .vpshrdw128 _ _ _ => some (evexRow [.vbmi2, .avx512vl] 128 16 0 true true .mergeZero)
  | .vpshrdw256 _ _ _ => some (evexRow [.vbmi2, .avx512vl] 256 16 0 true true .mergeZero)
  | .vpshrdw512 _ _ _ => some (evexRow [.vbmi2] 512 16 0 true true .mergeZero)
  | .vpshrdd128 _ _ _ => some (evexRow [.vbmi2, .avx512vl] 128 32 4 true true .mergeZero)
  | .vpshrdd256 _ _ _ => some (evexRow [.vbmi2, .avx512vl] 256 32 4 true true .mergeZero)
  | .vpshrdd512 _ _ _ => some (evexRow [.vbmi2] 512 32 4 true true .mergeZero)
  | .vpshrdq128 _ _ _ => some (evexRow [.vbmi2, .avx512vl] 128 64 8 true true .mergeZero)
  | .vpshrdq256 _ _ _ => some (evexRow [.vbmi2, .avx512vl] 256 64 8 true true .mergeZero)
  | .vpshrdq512 _ _ _ => some (evexRow [.vbmi2] 512 64 8 true true .mergeZero)
  | .vpshrdvw128 _ _ => some (evexRow [.vbmi2, .avx512vl] 128 16 0 true true .mergeZero)
  | .vpshrdvw256 _ _ => some (evexRow [.vbmi2, .avx512vl] 256 16 0 true true .mergeZero)
  | .vpshrdvw512 _ _ => some (evexRow [.vbmi2] 512 16 0 true true .mergeZero)
  | .vpshrdvd128 _ _ => some (evexRow [.vbmi2, .avx512vl] 128 32 4 true true .mergeZero)
  | .vpshrdvd256 _ _ => some (evexRow [.vbmi2, .avx512vl] 256 32 4 true true .mergeZero)
  | .vpshrdvd512 _ _ => some (evexRow [.vbmi2] 512 32 4 true true .mergeZero)
  | .vpshrdvq128 _ _ => some (evexRow [.vbmi2, .avx512vl] 128 64 8 true true .mergeZero)
  | .vpshrdvq256 _ _ => some (evexRow [.vbmi2, .avx512vl] 256 64 8 true true .mergeZero)
  | .vpshrdvq512 _ _ => some (evexRow [.vbmi2] 512 64 8 true true .mergeZero)
  | .vpdpbusd128 _ _ => some (evexRow [.vnni, .avx512vl] 128 32 4 true true .mergeZero)
  | .vpdpbusd256 _ _ => some (evexRow [.vnni, .avx512vl] 256 32 4 true true .mergeZero)
  | .vpdpbusd512 _ _ => some (evexRow [.vnni] 512 32 4 true true .mergeZero)
  | .vpdpbusds128 _ _ => some (evexRow [.vnni, .avx512vl] 128 32 4 true true .mergeZero)
  | .vpdpbusds256 _ _ => some (evexRow [.vnni, .avx512vl] 256 32 4 true true .mergeZero)
  | .vpdpbusds512 _ _ => some (evexRow [.vnni] 512 32 4 true true .mergeZero)
  | .vpdpwssd128 _ _ => some (evexRow [.vnni, .avx512vl] 128 32 4 true true .mergeZero)
  | .vpdpwssd256 _ _ => some (evexRow [.vnni, .avx512vl] 256 32 4 true true .mergeZero)
  | .vpdpwssd512 _ _ => some (evexRow [.vnni] 512 32 4 true true .mergeZero)
  | .vpdpwssds128 _ _ => some (evexRow [.vnni, .avx512vl] 128 32 4 true true .mergeZero)
  | .vpdpwssds256 _ _ => some (evexRow [.vnni, .avx512vl] 256 32 4 true true .mergeZero)
  | .vpdpwssds512 _ _ => some (evexRow [.vnni] 512 32 4 true true .mergeZero)
  | .vpopcntb128 _ _ => some (evexRow [.bitalg, .avx512vl] 128 8 0 true false .mergeZero)
  | .vpopcntb256 _ _ => some (evexRow [.bitalg, .avx512vl] 256 8 0 true false .mergeZero)
  | .vpopcntb512 _ _ => some (evexRow [.bitalg] 512 8 0 true false .mergeZero)
  | .vpopcntw128 _ _ => some (evexRow [.bitalg, .avx512vl] 128 16 0 true false .mergeZero)
  | .vpopcntw256 _ _ => some (evexRow [.bitalg, .avx512vl] 256 16 0 true false .mergeZero)
  | .vpopcntw512 _ _ => some (evexRow [.bitalg] 512 16 0 true false .mergeZero)
  | .vpopcntd128 _ _ => some (evexRow [.vpopcntdq, .avx512vl] 128 32 4 true false .mergeZero)
  | .vpopcntd256 _ _ => some (evexRow [.vpopcntdq, .avx512vl] 256 32 4 true false .mergeZero)
  | .vpopcntd512 _ _ => some (evexRow [.vpopcntdq] 512 32 4 true false .mergeZero)
  | .vpopcntq128 _ _ => some (evexRow [.vpopcntdq, .avx512vl] 128 64 8 true false .mergeZero)
  | .vpopcntq256 _ _ => some (evexRow [.vpopcntdq, .avx512vl] 256 64 8 true false .mergeZero)
  | .vpopcntq512 _ _ => some (evexRow [.vpopcntdq] 512 64 8 true false .mergeZero)
  | .vpshufbitqmb128 _ _ => some (evexRow [.bitalg, .avx512vl] 128 8 0 true true .opmask)
  | .vpshufbitqmb256 _ _ => some (evexRow [.bitalg, .avx512vl] 256 8 0 true true .opmask)
  | .vpshufbitqmb512 _ _ => some (evexRow [.bitalg] 512 8 0 true true .opmask)

end Sys2Proof

namespace Sys2Proof.Machine

/-! ## What rows of the table compute -/

/-- Every EVEX row of the list computes so: where the encoding is legal, the row available and its r/m source readable
(`b` is what was read), the instruction completes, element `j` of the destination is `val old a b j` under the mask,
zero above the vector length, and nothing else changes. `old` is the destination before, `a` the vvvv register. -/
def EvexComputes (w : Nat) (rows : List (Evex → Rm → Instr)) (val : Vec → Vec → Vec → Nat → BitVec w) : Prop :=
  ∀ mk ∈ rows, ∀ (e : Evex) (rm : Rm) (s u : State) (r : VecRow) (b : Vec),
    (mk e rm).vecRow = some r → vecReady s r (evexLegal r e rm.isMem) = .ok () →
    vecSrc s r e.pfx e.b (active s e.aaa) rm = .ok (b, u) →
    ∃ t, exec (mk e rm) s = .next t ∧
      MaskedElems w r.vl s e (t.vec e.reg) (val (s.vec e.reg) (s.vec e.vvvv) b) ∧ FrameVec e.reg s t

/-- The same for EVEX rows without masking (VAES, VPCLMULQDQ). -/
def EvexComputesAll (w : Nat) (rows : List (Evex → Rm → Instr)) (val : Vec → Vec → Nat → BitVec w) : Prop :=
  ∀ mk ∈ rows, ∀ (e : Evex) (rm : Rm) (s u : State) (r : VecRow) (b : Vec),
    (mk e rm).vecRow = some r → vecReady s r (evexLegal r e rm.isMem) = .ok () →
    vecSrc s r e.pfx e.b (active s e.aaa) rm = .ok (b, u) →
    ∃ t, exec (mk e rm) s = .next t ∧ HasElems w r.vl (t.vec e.reg) (val (s.vec e.vvvv) b) ∧ FrameVec e.reg s t

/-- The same for VEX rows: zero above the vector length. The vector length is one the processor has (00_scope.md R8: a
256-bit row needs a `MAXVL` of 256). -/
def VexComputes (w : Nat) (rows : List (Vex → Rm → Instr)) (val : Vec → Vec → Nat → BitVec w) : Prop :=
  ∀ mk ∈ rows, ∀ (v : Vex) (rm : Rm) (s u : State) (r : VecRow) (b : Vec),
    (mk v rm).vecRow = some r → r.vl ≤ maxVl s.cfg → vecReady s r (!v.pfx.forbidden) = .ok () →
    vecSrc s r v.pfx false (fun _ => true) rm = .ok (b, u) →
    ∃ t, exec (mk v rm) s = .next t ∧
      HasElems w r.vl (t.vec (v.reg.setWidth 5)) (val (s.vec (v.vvvv.setWidth 5)) b) ∧ FrameVec (v.reg.setWidth 5) s t

/-- The same for legacy-SSE rows: the destination is also the first source, its bits from 128 up are unmodified. -/
def SseComputes (w : Nat) (rows : List (Pfx → GReg → Rm → Instr)) (val : Vec → Vec → Nat → BitVec w) : Prop :=
  ∀ mk ∈ rows, ∀ (p : Pfx) (x : GReg) (rm : Rm) (s u : State) (r : VecRow) (b : Vec),
    (mk p x rm).vecRow = some r → vecReady s r (!p.forbidden) = .ok () →
    vecSrc s r p false (fun _ => true) rm = .ok (b, u) →
    ∃ t, exec (mk p x rm) s = .next t ∧
      (∀ j, j < 128 / w → elem w (t.vec (x.setWidth 5)) j = val (s.vec (x.setWidth 5)) b j) ∧
      (t.vec (x.setWidth 5)).extractLsb' 128 384 = (s.vec (x.setWidth 5)).extractLsb' 128 384 ∧
      FrameVec (x.setWidth 5) s t

end Sys2Proof.Machine
end

