-- ==== Sys2Proof/Certificates/Slice0/Obligations.lean ====
section
/-! DEFINITION. The statements for the provers. -/

open Sys2Proof Sys2Proof.Machine

/-! ## Encoding, fetching, one step -/

/-- Decoding the encoding of a well-formed instruction, whatever bytes follow it, gives it back with its length, in every
mode (30_encoding.md R164 to R174, R190). -/
def Obligations.DecodeOfEncode : Prop :=
  ∀ (m : DecodeMode) (i : Instr) (rest : List Byte), i.wellFormed m = true →
    decode m (encode i ++ rest) = .instr i (encode i).length

/-- Bytes the spec gives as examples decode to the instructions it names (R320, R325, R333, R345, R380). -/
def Obligations.SpecExamplesDecode : Prop :=
  decode .long [0x0F#8, 0x1C#8, 0x44#8, 0x8B#8, 0x40#8] =
      .instr (.cldemote Pfx.none (.sib (some 3#4) 1#4 2#2 (.d8 0x40#8))) 5 ∧
    decode .long [0x4C#8, 0x0F#8, 0x38#8, 0xF9#8, 0x07#8] = .instr (.movdiri64 Pfx.none 8#4 (.base 7#4 .none)) 5 ∧
    decode .long [0x67#8, 0x66#8, 0x0F#8, 0x38#8, 0xF8#8, 0x06#8] =
      .instr (.movdir64b { Pfx.none with addr67 := true } 0#4 (.base 6#4 .none)) 6 ∧
    decode .long [0xC4#8, 0xE3#8, 0xED#8, 0xCE#8, 0xCB#8, 0x00#8] =
      .instr (.vgf2p8affineqbVex256 { pfx := Pfx.none, reg := 1#4, vvvv := 2#4 } (.reg 3#5) 0#8) 6 ∧
    decode .long [0x62#8, 0xF3#8, 0xED#8, 0x58#8, 0xCE#8, 0x08#8, 0x00#8] =
      .instr (.vgf2p8affineqb512
        { pfx := Pfx.none, p0res := 0#2, p1one := true, reg := 1#5, vvvv := 2#5, aaa := 0#3, z := false, b := true }
        (.mem (.base 0#4 .none)) 0#8) 7 ∧
    decode .long [0x66#8, 0x41#8, 0x0F#8, 0xAE#8, 0xF0#8] = .instr (.tpause Pfx.none 8#4) 5

/-- A step with no input pending runs the instruction at RIP: time passes (`tick`), the bytes at RIP decode to `i`, and
the step is `exec` of `i` with the address of the next instruction known; the same where inputs are pending behind an
`instruction` turn. Under a store of another agent meanwhile it is `exec` of what stands at RIP once the early bytes have
landed, which are any of the store's bytes, and the other bytes land after it (20_memory.md R108, D9; log entries 8, 40). -/
def Obligations.StepRunsDecoded : Prop :=
  (∀ (s : State) (i : Instr) (len : Nat), s.vmx.handedOver = false →
    decode s.tick.decodeMode (fetchBytes s.tick).1 = .instr i len →
    (s.inputs = [] → step s = exec i (s.tick.begin len)) ∧
      step { s with inputs := .instruction :: s.inputs } = exec i (s.tick.begin len) ∧
      (s.tick.begin len).nextRip = ripPlus s.tick len ∧ (s.tick.begin len).rip = s.rip ∧
      SameGprs s (s.tick.begin len) ∧ SameVecs s (s.tick.begin len) ∧ SameMasks s (s.tick.begin len) ∧
      (s.tick.begin len).rflags = s.rflags ∧ SameMemory s (s.tick.begin len)) ∧
  ∀ (s : State) (i : Instr) (len pa : Nat) (bytes : List Byte), s.vmx.handedOver = false →
    pa + bytes.length ≤ 2 ^ s.cfg.maxPhyAddr →
    let u := s.storeEarly pa bytes
    decode u.tick.decodeMode (fetchBytes u.tick).1 = .instr i len →
    step { s with inputs := .storeMeanwhile pa bytes :: s.inputs } =
        landAfter (landing s false pa bytes) (exec i (u.tick.begin len)) ∧
      (∀ k, k < bytes.length → u.byte (pa + k) = bytes.getD k 0#8 ∨
        (u.byte (pa + k) = s.byte (pa + k) ∧ (pa + k, bytes.getD k 0#8) ∈ landing s false pa bytes)) ∧
      (∀ a, a < pa ∨ pa + bytes.length ≤ a → u.byte a = s.byte a) ∧ SameGprs s u ∧ u.rip = s.rip

/-- In 64-bit mode without translation, where the bytes in memory from RIP on are the encoding of a well-formed
instruction, a step executes that instruction. That a linear address is cut to the width of a physical one where nothing
translates is log entry 10. -/
def Obligations.StepRunsEncoded : Prop :=
  ∀ (s : State) (i : Instr), s.Flat → s.vmx.handedOver = false → s.inputs = [] → s.stale = [] →
    CanonicalRange s s.rip 15 → i.wellFormed .long = true → s.sys.cs.d = false →
    (∀ k, k < (encode i).length → s.byte (s.physical (s.rip + BitVec.ofNat 64 k).toNat) = (encode i).getD k 0#8) →
    step s = exec i (s.tick.begin (encode i).length) ∧
      (s.tick.begin (encode i).length).nextRip = s.rip + BitVec.ofNat 64 (encode i).length

/-! ## Reset, invariants, whole-machine rules -/

/-- The values 10_state.md R90 and 70_reset_and_hazards.md R670 state for reset, in the state right after power-up and
after RESET# in any state; INIT# keeps the two hardware feedback MSRs (R671). -/
def Obligations.ResetAndInitValues : Prop :=
  ∀ s : State, (∀ t, t = State.reset ∨ t = resetEvent s →
      t.msr.hwFeedbackPtr = 0#64 ∧ t.msr.hwFeedbackConfig = 0#64 ∧ t.keyTableLock = .unlocked ∧
        (∀ id, (keySlot t.keyTable id).mode = .encryptWithTmeKey) ∧ bit t.msr.miscEnable 22 = false ∧
        t.monitor = none ∧ t.hfi.interruptPending = false) ∧
    (initEvent s).msr.hwFeedbackPtr = s.msr.hwFeedbackPtr ∧
    (initEvent s).msr.hwFeedbackConfig = s.msr.hwFeedbackConfig

/-- The invariant holds right after reset. -/
def Obligations.InvariantAtReset : Prop := State.reset.Inv

/-- Every step keeps the invariant: memory and the key table stay in canonical form, memory within MAXPHYADDR bits (R101);
the fixed bits of RFLAGS (R36), the reserved bits of the MSRs and of XCR0 (R43, R48 to R56; 93 U30, U32), the alignment of
the monitored block (R382) and the lock of a single processor (R67) stay as the spec says they read; no feedback update is
in progress while the status bit is 1 (R576). -/
def Obligations.InvariantKept : Prop := ∀ s t : State, s.Inv → step s = .next t → t.Inv

/-- No step changes the configuration (00_scope.md R7). -/
def Obligations.ConfigurationFixed : Prop := ∀ s t : State, step s = .next t → t.cfg = s.cfg

/-- The time-stamp counter never decreases, but for RESET# and INIT# (10_state.md R62). -/
def Obligations.TscNeverDecreases : Prop :=
  ∀ s t : State, step s = .next t → s.inputs.head? ≠ some .reset → s.inputs.head? ≠ some .init →
    s.tsc.toNat ≤ t.tsc.toNat

/-- A LOCK prefix, and before VEX or EVEX any prefix R176 forbids, makes every instruction #UD (20_memory.md R125;
30_encoding.md R176). That #UD comes whatever other fault or exit of the instruction applies (#NM, #PF, #GP, a VM exit) is
the order of 60_exceptions.md R606, spec decision D9 (outside what the source supports), log entry 11, unsafe. -/
def Obligations.ForbiddenPrefixFaults : Prop :=
  ∀ (i : Instr) (s : State), i.pfx.forbidden = true → exec i s = .fault .undefinedOpcode

/-- A vector instruction whose row is not available (a feature flag 0, or the state not enabled) raises #UD; one with
CR0.TS = 1 raises #UD or #NM; so one that gives a next state had all three (60_exceptions.md R606, R611, R612, R627). What
enables the state, and #NM for CR0.TS, are spec decision D7 (R611, R612, R627: the source names none of it); that #UD comes
first where CR0.TS is 1 too is spec decision D9 (R606: outside what the source supports), log entry 11. -/
def Obligations.VectorNeedsEnabledState : Prop :=
  ∀ (i : Instr) (s : State) (r : VecRow), i.vecRow = some r →
    ((hasAll s r.cell && stateEnabled s r.form) = false → exec i s = .fault .undefinedOpcode) ∧
      (bit s.sys.cr0 3 = true → exec i s = .fault .undefinedOpcode ∨ exec i s = .fault (.exception .nm none none)) ∧
      (∀ t, exec i s = .next t →
        hasAll s r.cell = true ∧ stateEnabled s r.form = true ∧ bit s.sys.cr0 3 = false)

/-- The availability test bit by bit: EVEX needs AVX512F, XCR0[7:5] and XCR0[2:1] all ones and CR4.OSXSAVE, VEX XCR0[2:1]
and CR4.OSXSAVE, neither in real-address or virtual-8086 mode; legacy SSE needs CR0.EM = 0 and CR4.OSFXSR; all need
CR0.TS = 0 (10_state.md R44; 40_cpuid_instruction.md R232). Which CR0 and CR4 bits decide is spec decision D7 (60_exceptions.md
R611, R612), and that #UD comes before #NM where both have a cause is spec decision D9 (R606: outside what the source
supports), log entry 11. -/
def Obligations.AvailabilityTest : Prop :=
  ∀ (s : State) (r : VecRow) (legal : Bool),
    let on : Bool := match r.form with
      | .sse => !s.sys.cr0.getLsbD 2 && s.sys.cr4.getLsbD 9
      | .vex => decide (s.mode ≠ .real) && decide (s.mode ≠ .v86) && s.sys.cr4.getLsbD 18 &&
          decide (s.sys.xcr0 &&& 0x06#64 = 0x06#64)
      | .evex => decide (s.mode ≠ .real) && decide (s.mode ≠ .v86) && s.cfg.features.avx512f && s.sys.cr4.getLsbD 18 &&
          decide (s.sys.xcr0 &&& 0xE6#64 = 0xE6#64)
    vecReady s r legal =
      if (legal && r.cell.all (hasFeature s.cfg.features) && on) = false then .error (.fault .undefinedOpcode)
      else if s.sys.cr0.getLsbD 3 = true then .error (.fault (.exception .nm none none))
      else .ok ()

/-- RFLAGS: only PCONFIG, TPAUSE and UMWAIT change it, and only its six status flags (10_state.md R37). -/
def Obligations.RflagsWriters : Prop :=
  ∀ (i : Instr) (s t : State), exec i s = .next t →
    t.rflags &&& ~~~statusMask = s.rflags &&& ~~~statusMask ∧
      ((∀ p, i ≠ .pconfig p) → (∀ p r, i ≠ .tpause p r) → (∀ p r, i ≠ .umwait p r) → t.rflags = s.rflags)

/-- General registers: only CPUID writes RAX, RBX, RCX and RDX, and PCONFIG RAX (10_state.md R32). -/
def Obligations.GprWriters : Prop :=
  ∀ (i : Instr) (s t : State) (x : GReg), exec i s = .next t → t.gpr64 x ≠ s.gpr64 x →
    ((∃ p, i = .cpuid p) ∧ (x = rax ∨ x = rbx ∨ x = rcx ∨ x = rdx)) ∨ ((∃ p, i = .pconfig p) ∧ x = rax)

/-- An instruction that gives a next state without leaving the guest changes no system register (R45), no MSR but
IA32_BIOS_SIGN_ID (CPUID, R54), no VMX state but cached sub-page permissions, nothing of the hardware feedback interface,
Intel PT, the key table's lock, the configuration and the inputs; only PCONFIG changes the key table (R66). -/
def Obligations.SystemStateKept : Prop :=
  ∀ (i : Instr) (s t : State), s.vmx.handedOver = false → exec i s = .next t → t.vmx.handedOver = false →
    SameSystem s t ∧ (t.msr = s.msr ∨ ((∃ p, i = .cpuid p) ∧ t.msr = { s.msr with biosSignId := t.msr.biosSignId })) ∧
      (t.keyTable = s.keyTable ∨ ∃ p, i = .pconfig p)

/-- Memory: only MOVDIRI, MOVDIR64B and VPCOMPRESSB/W with a memory destination store to it. -/
def Obligations.MemoryWriters : Prop :=
  ∀ (i : Instr) (s t : State), exec i s = .next t →
    (∀ p r m, i ≠ .movdiri32 p r m) → (∀ p r m, i ≠ .movdiri64 p r m) → (∀ p r m, i ≠ .movdir64b p r m) →
    (∀ e m, i ≠ .vpcompressbMem128 e m) → (∀ e m, i ≠ .vpcompressbMem256 e m) → (∀ e m, i ≠ .vpcompressbMem512 e m) →
    (∀ e m, i ≠ .vpcompresswMem128 e m) → (∀ e m, i ≠ .vpcompresswMem256 e m) → (∀ e m, i ≠ .vpcompresswMem512 e m) →
    SameMemory s t

/-- Opmask registers: only VPSHUFBITQMB writes one (10_state.md R42). -/
def Obligations.OpmaskWriters : Prop :=
  ∀ (i : Instr) (s t : State), exec i s = .next t →
    (∀ e rm, i ≠ .vpshufbitqmb128 e rm) → (∀ e rm, i ≠ .vpshufbitqmb256 e rm) → (∀ e rm, i ≠ .vpshufbitqmb512 e rm) →
    SameMasks s t

/-- No instruction is a branch: after one that gives a next state RIP is at the next instruction, or a VM exit has left
it at the instruction itself (10_state.md R34; 50_ept_sub_page_permissions.md R500, R510). That an exit is a next state
that hands control to the host is spec decision D8 and log entry 7 (DESIGN CHOICE); that it saves the RIP of the exiting
instruction is spec decision D41 for SPP-induced exits (R510) and log entry 31 (DEDUCED) for the others. -/
def Obligations.RipAdvances : Prop :=
  ∀ (i : Instr) (s t : State), s.vmx.handedOver = false → exec i s = .next t →
    (t.rip = s.nextRip ∧ t.vmx.handedOver = false) ∨
      (t.rip = s.rip ∧ t.vmx.handedOver = true ∧ t.vmx.mode = .root ∧ t.vmx.vmcs.guestRip = s.rip)

/-! ## Galois field, AES, carry-less multiplication -/

/-- GF2P8AFFINEQB: byte `j` is `affine_byte` of byte `j` of x with the matrix in the quadword of the r/m source that holds
byte `j`; per byte under the mask in the EVEX forms, zero above the vector length in the EVEX and VEX forms, the bits
from 128 up unmodified in the SSE form, where x is the destination (43_gfni.md R346). -/
def Obligations.GfniAffineResults : Prop :=
  ∀ imm : Byte,
    EvexComputes 8 [fun e rm => .vgf2p8affineqb128 e rm imm, fun e rm => .vgf2p8affineqb256 e rm imm,
        fun e rm => .vgf2p8affineqb512 e rm imm]
      (fun _ x a j => affineByte (elem 64 a (j / 8)) (elem 8 x j) imm) ∧
    VexComputes 8 [fun v rm => .vgf2p8affineqbVex128 v rm imm, fun v rm => .vgf2p8affineqbVex256 v rm imm]
      (fun x a j => affineByte (elem 64 a (j / 8)) (elem 8 x j) imm) ∧
    SseComputes 8 [fun p x rm => .gf2p8affineqb p x rm imm]
      (fun x a j => affineByte (elem 64 a (j / 8)) (elem 8 x j) imm)

/-- GF2P8AFFINEINVQB: the same of the inverse of byte `j` (R348). -/
def Obligations.GfniAffineInverseResults : Prop :=
  ∀ imm : Byte,
    EvexComputes 8 [fun e rm => .vgf2p8affineinvqb128 e rm imm, fun e rm => .vgf2p8affineinvqb256 e rm imm,
        fun e rm => .vgf2p8affineinvqb512 e rm imm]
      (fun _ x a j => affineByte (elem 64 a (j / 8)) (gfInverse (elem 8 x j)) imm) ∧
    VexComputes 8 [fun v rm => .vgf2p8affineinvqbVex128 v rm imm, fun v rm => .vgf2p8affineinvqbVex256 v rm imm]
      (fun x a j => affineByte (elem 64 a (j / 8)) (gfInverse (elem 8 x j)) imm) ∧
    SseComputes 8 [fun p x rm => .gf2p8affineinvqb p x rm imm]
      (fun x a j => affineByte (elem 64 a (j / 8)) (gfInverse (elem 8 x j)) imm)

/-- GF2P8MULB: byte by byte the product in the field (R350). -/
def Obligations.GfniMulResults : Prop :=
  EvexComputes 8 [.vgf2p8mulb128, .vgf2p8mulb256, .vgf2p8mulb512] (fun _ x y j => gf2p8mul (elem 8 x j) (elem 8 y j)) ∧
    VexComputes 8 [.vgf2p8mulbVex128, .vgf2p8mulbVex256] (fun x y j => gf2p8mul (elem 8 x j) (elem 8 y j)) ∧
    SseComputes 8 [.gf2p8mulb] (fun x y j => gf2p8mul (elem 8 x j) (elem 8 y j))

/-- VAESDEC, VAESDECLAST, VAESENC, VAESENCLAST: each 128-bit lane by the round function of its rule, the state from vvvv
and the round key from r/m (46_vaes_vpclmulqdq.md R405 to R408). -/
def Obligations.AesResults : Prop :=
  EvexComputesAll 128 [.vaesdec128, .vaesdec256, .vaesdec512]
      (fun x k i => invMixColumns (invSubBytes (invShiftRows (elem 128 x i))) ^^^ elem 128 k i) ∧
    EvexComputesAll 128 [.vaesdeclast128, .vaesdeclast256, .vaesdeclast512]
      (fun x k i => invSubBytes (invShiftRows (elem 128 x i)) ^^^ elem 128 k i) ∧
    EvexComputesAll 128 [.vaesenc128, .vaesenc256, .vaesenc512]
      (fun x k i => mixColumns (subBytes (shiftRows (elem 128 x i))) ^^^ elem 128 k i) ∧
    EvexComputesAll 128 [.vaesenclast128, .vaesenclast256, .vaesenclast512]
      (fun x k i => subBytes (shiftRows (elem 128 x i)) ^^^ elem 128 k i) ∧
    VexComputes 128 [.vaesdecVex256]
      (fun x k i => invMixColumns (invSubBytes (invShiftRows (elem 128 x i))) ^^^ elem 128 k i) ∧
    VexComputes 128 [.vaesdeclastVex256] (fun x k i => invSubBytes (invShiftRows (elem 128 x i)) ^^^ elem 128 k i) ∧
    VexComputes 128 [.vaesencVex256]
      (fun x k i => mixColumns (subBytes (shiftRows (elem 128 x i))) ^^^ elem 128 k i) ∧
    VexComputes 128 [.vaesenclastVex256] (fun x k i => subBytes (shiftRows (elem 128 x i)) ^^^ elem 128 k i)

/-- VPCLMULQDQ: imm[0] picks the half of vvvv, imm[4] the half of r/m, for every lane (R409, R412). -/
def Obligations.PclmulResults : Prop :=
  ∀ imm : Byte,
    let val : Vec → Vec → Nat → BitVec 128 := fun x y i =>
      pclmul128 (if imm.getLsbD 0 then elem 64 x (2 * i + 1) else elem 64 x (2 * i))
        (if imm.getLsbD 4 then elem 64 y (2 * i + 1) else elem 64 y (2 * i))
    EvexComputesAll 128 [fun e rm => .vpclmulqdq128 e rm imm, fun e rm => .vpclmulqdq256 e rm imm,
        fun e rm => .vpclmulqdq512 e rm imm] val ∧
      VexComputes 128 [fun v rm => .vpclmulqdqVex256 v rm imm] val

/-- The field GF(2^8) with the polynomial 11BH: the product commutes, 1 is neutral, it distributes over XOR, and every
byte but 0 has `inverse` as its inverse, with inverse(0) = 0 (43_gfni.md R341 to R343). -/
def Obligations.FieldLaws : Prop :=
  (∀ x y : Byte, gf2p8mul x y = gf2p8mul y x) ∧ (∀ x : Byte, gf2p8mul x 1#8 = x) ∧
    (∀ x y z : Byte, gf2p8mul (x ^^^ y) z = gf2p8mul x z ^^^ gf2p8mul y z) ∧
    (∀ x : Byte, x ≠ 0#8 → gf2p8mul x (gfInverse x) = 1#8) ∧ gfInverse 0#8 = 0#8

/-- Bit `i` of the affine transformation is the parity of matrix byte 7 - i AND the input, XOR bit `i` of b; the inverse
form takes the inverse of the input; so the identity matrix gives x XOR b, 8040201008040201H the bits of x reversed, all
ones the parity of x in every bit; five bytes of the AES S-box (R344). -/
def Obligations.AffineByteBits : Prop :=
  (∀ (a : Word64) (x b : Byte) (i : Nat), i < 8 →
      (affineByte a x b).getLsbD i = ((popcnt (a.extractLsb' (8 * (7 - i)) 8 &&& x) % 2 == 1) != b.getLsbD i)) ∧
    (∀ (a : Word64) (x b : Byte) (i : Nat), i < 8 →
      (affineInverseByte a x b).getLsbD i =
        ((popcnt (a.extractLsb' (8 * (7 - i)) 8 &&& gfInverse x) % 2 == 1) != b.getLsbD i)) ∧
    (∀ x b : Byte, affineByte 0x0102040810204080#64 x b = x ^^^ b) ∧
    (∀ x : Byte, affineByte 0x8040201008040201#64 x 0#8 = x.reverse) ∧
    (∀ x : Byte, affineByte 0xFFFFFFFFFFFFFFFF#64 x 0#8 = if popcnt x % 2 = 1 then 0xFF#8 else 0#8) ∧
    [0x00#8, 0x01#8, 0x53#8, 0x95#8, 0xFF#8].map (affineInverseByte 0xF1E3C78F1F3E7CF8#64 · 0x63#8) =
      [0x63#8, 0x7C#8, 0xED#8, 0x2A#8, 0x16#8]

/-- The inverse round steps undo the round steps: InvShiftRows after ShiftRows, InvSubBytes after SubBytes, InvMixColumns
after MixColumns (46_vaes_vpclmulqdq.md R402 to R404). -/
def Obligations.AesStepsInvert : Prop :=
  ∀ st : BitVec 128, invShiftRows (shiftRows st) = st ∧ invSubBytes (subBytes st) = st ∧
    invMixColumns (mixColumns st) = st

/-- `PCLMUL128`: result bit `i` is the XOR of X[j] AND Y[i-j] over all j with 0 ≤ j ≤ 63 and 0 ≤ i-j ≤ 63; bit 127 is 0;
it is commutative (R411). -/
def Obligations.CarrylessProductBits : Prop :=
  (∀ (x y : Word64) (i : Nat), i < 127 →
      (pclmul128 x y).getLsbD i =
        (List.range 64).foldl (fun p j => p != (decide (j ≤ i) && x.getLsbD j && y.getLsbD (i - j))) false) ∧
    (∀ x y : Word64, (pclmul128 x y).getLsbD 127 = false) ∧ (∀ x y : Word64, pclmul128 x y = pclmul128 y x) ∧
    pclmul128 3#64 3#64 = 5#128 ∧ (∀ x : Word64, pclmul128 x 1#64 = x.setWidth 128) ∧
    (∀ x : Word64, pclmul128 x 2#64 = x.setWidth 128 <<< 1) ∧
    pclmul128 0xFFFFFFFFFFFFFFFF#64 0xFFFFFFFFFFFFFFFF#64 = 0x55555555555555555555555555555555#128 ∧
    pclmul128 0x8000000000000000#64 0x8000000000000000#64 = 1#128 <<< 126

/-! ## VBMI2, VNNI, BITALG, VPOPCNTDQ -/

/-- VPCOMPRESSB/W to a register: element `k` below the number of active elements is the `k`-th active source element;
from there on the old elements are kept or zeroed (47_vbmi2.md R422, R423). The source is ModRM.reg, the destination
ModRM.r/m. -/
def Obligations.CompressRegister : Prop :=
  ∀ c ∈ [((8 : Nat), (128 : Nat), Instr.vpcompressbReg128), (8, 256, .vpcompressbReg256), (8, 512, .vpcompressbReg512),
      (16, 128, .vpcompresswReg128), (16, 256, .vpcompresswReg256), (16, 512, .vpcompresswReg512)],
    ∀ (e : Evex) (d : VReg) (s : State) (r : VecRow), (c.2.2 e d).vecRow = some r →
      vecReady s r (evexLegal r e false) = .ok () →
      let act := (List.range (c.2.1 / c.1)).filter (active s e.aaa)
      ∃ t, exec (c.2.2 e d) s = .next t ∧ FrameVec d s t ∧
        HasElems c.1 c.2.1 (t.vec d) fun k =>
          if k < act.length then elem c.1 (s.vec e.reg) (act.getD k 0)
          else if e.z then 0 else elem c.1 (s.vec d) k

/-- VPEXPANDB/W from a register: the active destination elements take source elements 0, 1, 2, ... in turn; the others
are kept or zeroed (R426). -/
def Obligations.ExpandRegister : Prop :=
  ∀ c ∈ [((8 : Nat), (128 : Nat), Instr.vpexpandbReg128), (8, 256, .vpexpandbReg256), (8, 512, .vpexpandbReg512),
      (16, 128, .vpexpandwReg128), (16, 256, .vpexpandwReg256), (16, 512, .vpexpandwReg512)],
    ∀ (e : Evex) (x : VReg) (s : State) (r : VecRow), (c.2.2 e x).vecRow = some r →
      vecReady s r (evexLegal r e false) = .ok () →
      ∃ t, exec (c.2.2 e x) s = .next t ∧ FrameVec e.reg s t ∧
        MaskedElems c.1 c.2.1 s e (t.vec e.reg) fun j =>
          elem c.1 (s.vec x) ((List.range j).filter (active s e.aaa)).length

/-- VPCOMPRESSB/W to memory: exactly the active elements are written, packed from the operand's address on, nothing where
none is active; the bytes are those of the elements in rising order (R424). -/
def Obligations.CompressMemory : Prop :=
  ∀ c ∈ [((8 : Nat), (128 : Nat), Instr.vpcompressbMem128), (8, 256, .vpcompressbMem256), (8, 512, .vpcompressbMem512),
      (16, 128, .vpcompresswMem128), (16, 256, .vpcompresswMem256), (16, 512, .vpcompresswMem512)],
    ∀ (e : Evex) (m : Mem) (s u : State) (r : VecRow) (pas : List Nat), (c.2.2 e m).vecRow = some r →
      vecReady s r (evexLegal r e true) = .ok () →
      let act := (List.range (c.2.1 / c.1)).filter (active s e.aaa)
      (act = [] → ∃ t, exec (c.2.2 e m) s = .next t ∧ FrameStore [] s t) ∧
      (act ≠ [] →
        locate s { Access.store with multiWrite := true } (memSeg s e.pfx m) (memOff s e.pfx (c.1 / 8) m)
          (act.length * (c.1 / 8)) = .ok (pas, u) →
        ∃ t, exec (c.2.2 e m) s = .next t ∧ FrameStore pas s t ∧
          (pas.Nodup → ∀ n, n < act.length * (c.1 / 8) →
            t.byte (pas.getD n 0) =
              (elem c.1 (s.vec e.reg) (act.getD (n / (c.1 / 8)) 0)).extractLsb' (8 * (n % (c.1 / 8))) 8))

/-- VPEXPANDB/W from memory: as many elements are read as are active, one by one from the operand's address on, none where
none is; they go to the active positions in turn (R426, R427). Where every element before one can be read and that one
faults, that fault is the outcome (60_exceptions.md R614, R615; spec decision D22). Where linear addresses are physical
ones (cut to MAXPHYADDR bits, log entry 10) the bytes read are those of memory in order (20_memory.md R100). -/
def Obligations.ExpandMemory : Prop :=
  (∀ c ∈ [((8 : Nat), (128 : Nat), Instr.vpexpandbMem128), (8, 256, .vpexpandbMem256), (8, 512, .vpexpandbMem512),
      (16, 128, .vpexpandwMem128), (16, 256, .vpexpandwMem256), (16, 512, .vpexpandwMem512)],
    ∀ (e : Evex) (m : Mem) (s u : State) (r : VecRow) (bs : List Byte), (c.2.2 e m).vecRow = some r →
      vecReady s r (evexLegal r e true) = .ok () →
      let n := ((List.range (c.2.1 / c.1)).filter (active s e.aaa)).length
      let seg := memSeg s e.pfx m
      let off := memOff s e.pfx (c.1 / 8) m
      (readElems s seg off (c.1 / 8) (fun _ => true) n 0 = .ok (bs, u) →
        ∃ t, exec (c.2.2 e m) s = .next t ∧ FrameVec e.reg s t ∧
          MaskedElems c.1 c.2.1 s e (t.vec e.reg) fun j =>
            BitVec.ofNat c.1 (bytesValue ((bs.drop (((List.range j).filter (active s e.aaa)).length * (c.1 / 8))).take
              (c.1 / 8)))) ∧
      (∀ (k : Nat) (x : Stop), k < n → readElems s seg off (c.1 / 8) (fun _ => true) k 0 = .ok (bs, u) →
        readMem u Access.load seg (off + BitVec.ofNat 64 (k * (c.1 / 8))) (c.1 / 8) = .error x →
        exec (c.2.2 e m) s = finish (.error x))) ∧
  ∀ (s : State) (seg : Seg) (off : Word64) (k n : Nat), s.Flat → k = 1 ∨ k = 2 → n ≤ 64 →
    CanonicalRange s (linearAddress s seg off) (n * k) →
    readElems s seg off k (fun _ => true) n 0 =
      .ok ((List.range (n * k)).map fun i => s.byte (s.physical (linearAddress s seg off + BitVec.ofNat 64 i).toNat), s)

/-- Expanding, with zeroing, what compressing with zeroing under the same mask gave leaves the source with its inactive
elements zeroed (R428). -/
def Obligations.ExpandUndoesCompress : Prop :=
  ∀ (r : VecRow) (act : Nat → Bool) (x : Vec), 0 < r.esz → r.esz * r.kl = r.vl → r.vl ≤ 512 →
    HasElems r.esz r.vl (maskMerge r act true 0#512 (expanded r act (packed r act x)))
      fun j => if act j then elem r.esz x j else 0

/-- VPSHLD and VPSHLDV: the high half of the shifted concatenation; VPSHRD and VPSHRDV: the low half; which source is
high, which low and where the count comes from, for words, doublewords and quadwords (R433, R435, R437, R439). -/
def Obligations.ConcatShiftResults : Prop :=
  ∀ imm : Byte,
    (EvexComputes 16 [fun e rm => .vpshldw128 e rm imm, fun e rm => .vpshldw256 e rm imm, fun e rm => .vpshldw512 e rm imm]
        (fun _ a b j => shld (elem 16 a j) (elem 16 b j) imm.toNat) ∧
      EvexComputes 32 [fun e rm => .vpshldd128 e rm imm, fun e rm => .vpshldd256 e rm imm, fun e rm => .vpshldd512 e rm imm]
        (fun _ a b j => shld (elem 32 a j) (elem 32 b j) imm.toNat) ∧
      EvexComputes 64 [fun e rm => .vpshldq128 e rm imm, fun e rm => .vpshldq256 e rm imm, fun e rm => .vpshldq512 e rm imm]
        (fun _ a b j => shld (elem 64 a j) (elem 64 b j) imm.toNat)) ∧
    (EvexComputes 16 [.vpshldvw128, .vpshldvw256, .vpshldvw512]
        (fun d a b j => shld (elem 16 d j) (elem 16 a j) (elem 16 b j).toNat) ∧
      EvexComputes 32 [.vpshldvd128, .vpshldvd256, .vpshldvd512]
        (fun d a b j => shld (elem 32 d j) (elem 32 a j) (elem 32 b j).toNat) ∧
      EvexComputes 64 [.vpshldvq128, .vpshldvq256, .vpshldvq512]
        (fun d a b j => shld (elem 64 d j) (elem 64 a j) (elem 64 b j).toNat)) ∧
    (EvexComputes 16 [fun e rm => .vpshrdw128 e rm imm, fun e rm => .vpshrdw256 e rm imm, fun e rm => .vpshrdw512 e rm imm]
        (fun _ a b j => shrd (elem 16 b j) (elem 16 a j) imm.toNat) ∧
      EvexComputes 32 [fun e rm => .vpshrdd128 e rm imm, fun e rm => .vpshrdd256 e rm imm, fun e rm => .vpshrdd512 e rm imm]
        (fun _ a b j => shrd (elem 32 b j) (elem 32 a j) imm.toNat) ∧
      EvexComputes 64 [fun e rm => .vpshrdq128 e rm imm, fun e rm => .vpshrdq256 e rm imm, fun e rm => .vpshrdq512 e rm imm]
        (fun _ a b j => shrd (elem 64 b j) (elem 64 a j) imm.toNat)) ∧
    (EvexComputes 16 [.vpshrdvw128, .vpshrdvw256, .vpshrdvw512]
        (fun d a b j => shrd (elem 16 a j) (elem 16 d j) (elem 16 b j).toNat) ∧
      EvexComputes 32 [.vpshrdvd128, .vpshrdvd256, .vpshrdvd512]
        (fun d a b j => shrd (elem 32 a j) (elem 32 d j) (elem 32 b j).toNat) ∧
      EvexComputes 64 [.vpshrdvq128, .vpshrdvq256, .vpshrdvq512]
        (fun d a b j => shrd (elem 64 a j) (elem 64 d j) (elem 64 b j).toNat))

/-- The shift functions in single-width terms: the count is taken modulo the width; with a count of 0 the first operand
of the left form and the second of the right form is the result; with equal operands they rotate (R430). -/
def Obligations.ConcatShiftFormulas : Prop :=
  ∀ (w : Nat) (a b : BitVec w) (c : Nat), 0 < w →
    let k := c % w
    shld a b c = (if k = 0 then a else (a <<< k) ||| (b >>> (w - k))) ∧
      shrd a b c = (if k = 0 then b else (b >>> k) ||| (a <<< (w - k))) ∧
      shld a a c = a.rotateLeft k ∧ shrd a a c = a.rotateRight k

/-- VPDPBUSD and VPDPWSSD: old destination plus the exact sum of products, of unsigned bytes of vvvv and signed bytes of
r/m, or of signed words of both, modulo 2^32 (48_vnni.md R463, R467). -/
def Obligations.DotProductResults : Prop :=
  EvexComputes 32 [.vpdpbusd128, .vpdpbusd256, .vpdpbusd512]
      (fun d a b i => BitVec.ofInt 32 ((elem 32 d i).toInt +
        ((elem 8 a (4 * i)).toNat * (elem 8 b (4 * i)).toInt + (elem 8 a (4 * i + 1)).toNat * (elem 8 b (4 * i + 1)).toInt +
          (elem 8 a (4 * i + 2)).toNat * (elem 8 b (4 * i + 2)).toInt +
          (elem 8 a (4 * i + 3)).toNat * (elem 8 b (4 * i + 3)).toInt))) ∧
    EvexComputes 32 [.vpdpwssd128, .vpdpwssd256, .vpdpwssd512]
      (fun d a b i => BitVec.ofInt 32 ((elem 32 d i).toInt +
        ((elem 16 a (2 * i)).toInt * (elem 16 b (2 * i)).toInt +
          (elem 16 a (2 * i + 1)).toInt * (elem 16 b (2 * i + 1)).toInt)))

/-- VPDPBUSDS and VPDPWSSDS: the same sums, formed exactly, then once 7FFFFFFFH above 2^31 - 1, 80000000H below -2^31,
the low 32 bits otherwise: `SIGNED_DWORD_SATURATE` (R461, R465, R469). The source does not define that function (N48-1): the
exact sum saturated once is the spec's own derivation (R461, marked derived). The masked branches and the closing line of
VPDPBUSDS (R465) are restored by the spec from sibling pages (N48-2). -/
def Obligations.SaturatingDotProductResults : Prop :=
  let saturated : Int → Word32 := fun x =>
    if 2 ^ 31 - 1 < x then 0x7FFFFFFF#32 else if x < -2 ^ 31 then 0x80000000#32 else BitVec.ofInt 32 x
  EvexComputes 32 [.vpdpbusds128, .vpdpbusds256, .vpdpbusds512]
      (fun d a b i => saturated ((elem 32 d i).toInt +
        ((elem 8 a (4 * i)).toNat * (elem 8 b (4 * i)).toInt + (elem 8 a (4 * i + 1)).toNat * (elem 8 b (4 * i + 1)).toInt +
          (elem 8 a (4 * i + 2)).toNat * (elem 8 b (4 * i + 2)).toInt +
          (elem 8 a (4 * i + 3)).toNat * (elem 8 b (4 * i + 3)).toInt))) ∧
    EvexComputes 32 [.vpdpwssds128, .vpdpwssds256, .vpdpwssds512]
      (fun d a b i => saturated ((elem 32 d i).toInt +
        ((elem 16 a (2 * i)).toInt * (elem 16 b (2 * i)).toInt +
          (elem 16 a (2 * i + 1)).toInt * (elem 16 b (2 * i + 1)).toInt)))

/-- VPOPCNTB/W/D/Q: the number of ones of every element of r/m under the mask (49_bitalg_vpopcnt.md R482). -/
def Obligations.PopcountResults : Prop :=
  EvexComputes 8 [.vpopcntb128, .vpopcntb256, .vpopcntb512] (fun _ _ b j => BitVec.ofNat 8 (popcnt (elem 8 b j))) ∧
    EvexComputes 16 [.vpopcntw128, .vpopcntw256, .vpopcntw512] (fun _ _ b j => BitVec.ofNat 16 (popcnt (elem 16 b j))) ∧
    EvexComputes 32 [.vpopcntd128, .vpopcntd256, .vpopcntd512] (fun _ _ b j => BitVec.ofNat 32 (popcnt (elem 32 b j))) ∧
    EvexComputes 64 [.vpopcntq128, .vpopcntq256, .vpopcntq512] (fun _ _ b j => BitVec.ofNat 64 (popcnt (elem 64 b j)))

/-- VPSHUFBITQMB: destination bit `n` is bit (control byte `n` AND 3FH) of quadword n / 8 of vvvv where the mask is on,
0 elsewhere and from the number of bytes up; any of k0 to k7 may be the destination (R485; 10_state.md R42). -/
def Obligations.ShuffleBitResults : Prop :=
  ∀ mk ∈ [Instr.vpshufbitqmb128, .vpshufbitqmb256, .vpshufbitqmb512],
    ∀ (e : Evex) (rm : Rm) (s u : State) (r : VecRow) (b : Vec), (mk e rm).vecRow = some r →
      vecReady s r (evexLegal r e rm.isMem) = .ok () → vecSrc s r e.pfx e.b (active s e.aaa) rm = .ok (b, u) →
      ∃ t, exec (mk e rm) s = .next t ∧ FrameMask (e.reg.setWidth 3) s t ∧
        ∀ n, n < 64 → (t.opmask (e.reg.setWidth 3)).getLsbD n =
          (decide (n < r.vl / 8) && active s e.aaa n &&
            (elem 64 (s.vec e.vvvv) (n / 8)).getLsbD (elem 8 b n &&& 0x3F#8).toNat)

/-! ## Memory operands -/

/-- The r/m source of a vector instruction where linear addresses are physical (cut to MAXPHYADDR bits, log entry 10): a
register is itself; memory without fault suppression is every byte of the vector length in order; with broadcast the one
element everywhere; with fault suppression every active element (60_exceptions.md R614; 20_memory.md R100). -/
def Obligations.VectorSourceBytes : Prop :=
  ∀ (s : State) (r : VecRow) (p : Pfx) (act : Nat → Bool) (m : Mem), s.Flat → r.vl = 128 ∨ r.vl = 256 ∨ r.vl = 512 →
    r.esz = 8 ∨ r.esz = 16 ∨ r.esz = 32 ∨ r.esz = 64 →
    (∀ (b : Bool) (x : VReg), vecSrc s r p b act (.reg x) = .ok (s.vec x, s)) ∧
    (let la := linearAddress s (memSeg s p m) (memOff s p (if r.form = .evex then r.disp8 else 1) m)
     CanonicalRange s la (r.vl / 8) → (r.form = .sse → la.toNat % 16 = 0) →
        ∃ v, vecSrc s r p false act (.mem m) = .ok (v, s) ∧
          ∀ j, j < r.vl / 8 → (r.suppress = false ∨ act (j / (r.esz / 8)) = true) →
            elem 8 v j = s.byte (s.physical (la + BitVec.ofNat 64 j).toNat)) ∧
    (let la := linearAddress s (memSeg s p m) (memOff s p r.bcast m)
     r.form = .evex → (r.bcast = 4 ∨ r.bcast = 8) → CanonicalRange s la r.bcast →
      (r.suppress = false ∨ ∃ j, j < r.kl ∧ act j = true) →
        ∃ v, vecSrc s r p true act (.mem m) = .ok (v, s) ∧
          ∀ j, j < r.vl / 8 → elem 8 v j = s.byte (s.physical (la + BitVec.ofNat 64 (j % r.bcast)).toNat))

/-- Memory fault suppression: with a mask that is all zeros an instruction of a class that suppresses faults accesses no
memory and completes whatever its address; without suppression a non-canonical address faults all the same
(60_exceptions.md R613, R615). -/
def Obligations.FaultSuppression : Prop :=
  ∀ (s : State) (r : VecRow) (p : Pfx) (m : Mem), s.Flat → r.form = .evex →
    (r.suppress = true → ∀ b, ∃ v, vecSrc s r p b (fun _ => false) (.mem m) = .ok (v, s)) ∧
      (r.suppress = false → 8 ≤ r.vl →
        canonical s.cfg.linAddrBits (linearAddress s (memSeg s p m) (memOff s p r.disp8 m)) = false →
        ∀ act, vecSrc s r p false act (.mem m) =
          .error (.fault (.exception (if memSeg s p m = .ss then .ss else .gp) (some 0#32) none)))

/-- Alignment: an unaligned 16-byte operand of a legacy-SSE form and an unaligned MOVDIR64B destination raise #GP(0), the
former by spec decision D26 (20_memory.md R106); an unaligned MOVDIRI destination of 4 or of 8 bytes raises #AC(0) where
alignment checking is on (R107). That these faults come before an EPT violation or an SPP-induced exit of the same access
is the order of R104: spec decision D9, log entry 11 (DESIGN CHOICE). -/
def Obligations.AlignmentFaults : Prop :=
  ∀ (s : State) (p : Pfx) (m : Mem), s.mode = .long → s.paging = none → p.forbidden = false →
    (∀ (r : VecRow) (act : Nat → Bool), r.form = .sse → r.suppress = false → r.vl = 128 →
      (let la := linearAddress s (memSeg s p m) (memOff s p 1 m)
       CanonicalRange s la 16 → la.toNat % 16 ≠ 0 →
          vecSrc s r p false act (.mem m) = .error (.fault (.exception .gp (some 0#32) none)))) ∧
    (∀ (x : GReg) (bs : List Byte) (t : State), s.cfg.features.movdir64b = true →
      readMem s Access.load (memSeg s p m) (memOff s p 1 m) 64 = .ok (bs, t) →
      (let la := linearAddress s .es (s.gprAddr (s.addrSize p) x)
       CanonicalRange s la 64 → la.toNat % 64 ≠ 0 →
          exec (.movdir64b p x m) s = .fault (.exception .gp (some 0#32) none))) ∧
    (∀ c ∈ [((4 : Nat), Instr.movdiri32), (8, .movdiri64)], ∀ (x : GReg), s.cfg.features.movdiri = true →
      s.alignCheck = true →
      (let la := linearAddress s (memSeg s p m) (memOff s p 1 m)
       CanonicalRange s la c.1 → la.toNat % c.1 ≠ 0 →
          exec (c.2 p x m) s = .fault (.exception .ac (some 0#32) none)))

/-! ## CLDEMOTE, direct stores, WBNOINVD -/

/-- CLDEMOTE: #UD under LOCK, otherwise nothing but the advance of RIP at any address and in any mode: exactly so without
the feature (42_cldemote_movdir_wbnoinvd.md R322) or without paging; with both, accessed flags of pages may be set (R323,
93_implementation_defined.md U2). That it performs no access and no check is spec decision D18 (R321), log entry 43. -/
def Obligations.CldemoteIsNop : Prop :=
  ∀ (p : Pfx) (m : Mem) (s : State),
    (p.forbidden = false → ∃ t, exec (.cldemote p m) s = .next t ∧
      t = { s with rip := s.nextRip, paging := t.paging, draws := t.draws } ∧
      (s.cfg.features.cldemote = false ∨ s.paging = none → t.paging = s.paging ∧ t.draws = s.draws) ∧
      t.paging.map (·.map fun q => { q with accessed := false }) =
        s.paging.map (·.map fun q => { q with accessed := false })) ∧
      (p.forbidden = true → exec (.cldemote p m) s = .fault .undefinedOpcode)

/-- MOVDIRI stores the 4 or 8 low bytes of its register, lowest first, at the operand's bytes and changes nothing else
(R327); without the feature or under LOCK it raises #UD, and so do its bytes under 66H or with a register destination
(30_encoding.md R195; the register form by spec decision D33). That #UD comes before every fault of the memory operand is
spec decision D9 (R606), log entry 11. -/
def Obligations.MovdiriStores : Prop :=
  (∀ c ∈ [((4 : Nat), Instr.movdiri32), (8, .movdiri64)], ∀ (p : Pfx) (x : GReg) (m : Mem) (s : State),
      (∀ (u : State) (pas : List Nat), p.forbidden = false → s.cfg.features.movdiri = true →
        locate s (Access.direct c.1) (memSeg s p m) (memOff s p 1 m) c.1 = .ok (pas, u) →
        ∃ t, exec (c.2 p x m) s = .next t ∧ FrameStore pas s t ∧
          (pas.Nodup → ∀ i, i < c.1 → t.byte (pas.getD i 0) = (s.gpr64 x).extractLsb' (8 * i) 8)) ∧
      (p.forbidden = true ∨ s.cfg.features.movdiri = false → exec (c.2 p x m) s = .fault .undefinedOpcode)) ∧
    (∀ (p : Prefixes) (w : Bool) (x : GReg) (rm : Rm) (imm : Option Byte),
      p.p66 = true ∨ (p.f2 = false ∧ p.f3 = false ∧ rm.isMem = false) →
      buildLegacy p w 2#2 0xF9#8 x rm imm = .undefined)

/-- MOVDIR64B stores at ES:reg the 64 bytes read before from its source, each at its place, and changes nothing else
(R334); without the feature or under LOCK it raises #UD, and so do its bytes with a register source (30_encoding.md R195;
the register form by spec decision D33); with F2H or F3H its opcode matches no row and is refused (R333; 30_encoding.md
R196). That #UD comes before every fault of a memory operand is spec decision D9 (R606), log entry 11. -/
def Obligations.Movdir64bCopies : Prop :=
  (∀ (p : Pfx) (x : GReg) (m : Mem) (s : State),
      (∀ (v u : State) (bs : List Byte) (pas : List Nat), p.forbidden = false → s.cfg.features.movdir64b = true →
        readMem s Access.load (memSeg s p m) (memOff s p 1 m) 64 = .ok (bs, v) →
        locate v Access.direct64 .es (s.gprAddr (s.addrSize p) x) 64 = .ok (pas, u) →
        ∃ t, exec (.movdir64b p x m) s = .next t ∧ FrameStore pas s t ∧
          (pas.Nodup → ∀ i, i < 64 → t.byte (pas.getD i 0) = bs.getD i 0#8)) ∧
      (p.forbidden = true ∨ s.cfg.features.movdir64b = false →
        exec (.movdir64b p x m) s = .fault .undefinedOpcode)) ∧
    (∀ (p : Prefixes) (w : Bool) (x : GReg) (r : VReg) (imm : Option Byte), p.p66 = true → p.f2 = false → p.f3 = false →
      buildLegacy p w 2#2 0xF8#8 x (.reg r) imm = .undefined) ∧
    (∀ (p : Prefixes) (w : Bool) (x : GReg) (rm : Rm) (imm : Option Byte), p.f2 = true ∨ p.f3 = true →
      buildLegacy p w 2#2 0xF8#8 x rm imm = .noMatch .noRow)

/-- WBNOINVD: at CPL 0 outside virtual-8086 mode it serializes and changes nothing else; at another CPL or in
virtual-8086 mode it raises #GP(0); under LOCK #UD; where the processor does not report it the model refuses it
(R330, R331, R332). The refusal is the model's choice, log entry 45: R330 does not state what the bytes do then (spec
decision D4). So is the order of the outcomes, log entry 11 (60_exceptions.md R606; spec decision D9: outside what the
source supports): #UD under LOCK, then the refusal, then #GP(0). That it completes so in VMX non-root operation too is log
entry 25. -/
def Obligations.WbnoinvdRules : Prop :=
  ∀ (p : Pfx) (s : State),
    (p.forbidden = true → exec (.wbnoinvd p) s = .fault .undefinedOpcode) ∧
    (p.forbidden = false → s.cfg.features.wbnoinvd = true →
      (s.mode ≠ .v86 → s.cpl = 0 → exec (.wbnoinvd p) s = .next { s with stale := [], rip := s.nextRip }) ∧
      (s.mode = .v86 ∨ s.cpl ≠ 0 → exec (.wbnoinvd p) s = .fault (.exception .gp (some 0#32) none))) ∧
    (p.forbidden = false → s.cfg.features.wbnoinvd = false → exec (.wbnoinvd p) s = .refused .wbnoinvdAbsent)

/-! ## CPUID -/

/-- CPUID: the four outputs, each zero-extended to 64 bits in every mode; IA32_BIOS_SIGN_ID[63:32] becomes the microcode
revision; it serializes; nothing else changes (40_cpuid_instruction.md R222, R223, R227, R228). That it completes so in VMX
non-root operation too is the model's choice, log entry 25 (R230, N40-1, D23). -/
def Obligations.CpuidResult : Prop :=
  ∀ (p : Pfx) (s : State), p.forbidden = false →
    let o := cpuidAnswer s (s.gpr32 rax) (s.gpr32 rcx)
    ∃ t, exec (.cpuid p) s = .next t ∧ t.gpr64 rax = o.eax.setWidth 64 ∧ t.gpr64 rbx = o.ebx.setWidth 64 ∧
      t.gpr64 rcx = o.ecx.setWidth 64 ∧ t.gpr64 rdx = o.edx.setWidth 64 ∧
      (∀ x, x ≠ rax → x ≠ rbx → x ≠ rcx → x ≠ rdx → t.gpr64 x = s.gpr64 x) ∧
      t.msr = { s.msr with biosSignId := s.cfg.microcodeRevision ++ s.msr.biosSignId.extractLsb' 0 32 } ∧
      SameVecs s t ∧ SameMasks s t ∧ t.rflags = s.rflags ∧ SameMemory s t ∧ t.tsc = s.tsc ∧ t.monitor = s.monitor ∧
      t.keyTable = s.keyTable ∧ SameSystem s t ∧ t.stale = [] ∧ t.rip = s.nextRip

/-- Leaf 0 gives the highest basic leaf and "GenuineIntel" (41_cpuid_leaves.md R250), 3 while BOOT_NT4 is 1 (R226); an
unrecognized leaf answers as the highest basic leaf with ECX honoured (R224); leaves 01H, 06H, 07H and 80000008H report
the features, and leaf 01H CR4.OSXSAVE as it is now (R236); OSXSAVE is reported 1 only with XSAVE 1 (R232); that AVX or
AVX512F also makes XSAVE 1 is log entry 22; eight times leaf 01H's CLFLUSH field is the line size (R253). -/
def Obligations.CpuidLeaves : Prop :=
  ∀ (s : State) (sub : Word32),
    cpuidAnswer s 0#32 sub =
        { eax := if bit s.msr.miscEnable 22 then 3#32 else s.cfg.cpuidMaxBasic
          ebx := 0x756E6547#32, ecx := 0x6C65746E#32, edx := 0x49656E69#32 } ∧
      (∀ leaf, (maxBasic s).toNat < leaf.toNat → (leaf.toNat < 0x80000000 ∨ s.cfg.cpuidMaxExt.toNat < leaf.toNat) →
        cpuidAnswer s leaf sub = cpuidAnswer s (maxBasic s) sub) ∧
      (let o := cpuidAnswer s 1#32 sub
       o.ecx.getLsbD 27 = s.sys.cr4.getLsbD 18 ∧ (o.ecx.getLsbD 27 = true → o.ecx.getLsbD 26 = true) ∧
         (s.cfg.features.avx512f = true ∨ s.cfg.features.avx = true → o.ecx.getLsbD 26 = true) ∧
         o.ecx.getLsbD 28 = s.cfg.features.avx ∧
         o.edx.getLsbD 25 = s.cfg.features.sse ∧ (o.ebx.extractLsb' 8 8).toNat * 8 = s.cfg.clflushLine) ∧
      (6 ≤ (maxBasic s).toNat → (cpuidAnswer s 6#32 sub).eax.getLsbD 19 = s.cfg.features.hfi) ∧
      (7 ≤ (maxBasic s).toNat →
        let o := cpuidAnswer s 7#32 0#32
        let f := s.cfg.features
        o.ebx.getLsbD 16 = f.avx512f ∧ o.ebx.getLsbD 30 = f.avx512bw ∧ o.ebx.getLsbD 31 = f.avx512vl ∧
          o.ecx.getLsbD 5 = f.waitpkg ∧ o.ecx.getLsbD 6 = f.vbmi2 ∧ o.ecx.getLsbD 8 = f.gfni ∧
          o.ecx.getLsbD 9 = f.vaes ∧ o.ecx.getLsbD 10 = f.vpclmulqdq ∧ o.ecx.getLsbD 11 = f.vnni ∧
          o.ecx.getLsbD 12 = f.bitalg ∧ o.ecx.getLsbD 14 = f.vpopcntdq ∧ o.ecx.getLsbD 25 = f.cldemote ∧
          o.ecx.getLsbD 27 = f.movdiri ∧ o.ecx.getLsbD 28 = f.movdir64b ∧ o.edx.getLsbD 18 = f.pconfig) ∧
      (0x80000008 ≤ s.cfg.cpuidMaxExt.toNat →
        (cpuidAnswer s 0x80000008#32 sub).ebx.getLsbD 9 = s.cfg.features.wbnoinvd)

/-! ## PCONFIG -/

/-- PCONFIG that neither faults nor exits: the status in RAX (EAX outside 64-bit mode) with ZF telling failure and the
other five status flags clear; the tests in the order command, KeyID, algorithm, lock; a failure leaves the key table, a
success leaves every other KeyID; nothing else changes (44_pconfig.md R361, R366, R367). -/
def Obligations.PconfigReports : Prop :=
  ∀ (p : Pfx) (s u : State) (bs : List Byte), pconfigLegal p s = true → pconfigExits s = false →
    pconfigReady s = true → (pconfigBase s).toNat % 256 = 0 →
    readMem s Access.load .ds (pconfigBase s) 192 = .ok (bs, u) → structReservedClear bs = true →
    ∃ t code, exec (.pconfig p) s = .next t ∧ t.gpr32 rax = BitVec.ofNat 32 code ∧
      (s.is64 = true → t.gpr64 rax = BitVec.ofNat 64 code) ∧
      t.rflags = (s.rflags &&& ~~~0x8D5#64) ||| (if code = 0 then 0#64 else 0x40#64) ∧
      (if 3 < structCommand bs then code = 1
        else if structKeyId bs = 0 ∨ 2 ^ s.msr.mkTmeKeyidBits ≤ structKeyId bs ∨ s.msr.mkTmeMaxKeys < structKeyId bs then
          code = 3
        else if popcnt (structEncAlg bs) ≠ 1 ∨ structEncAlg bs &&& s.msr.mkTmeCryptoAlgs = 0#16 then code = 4
        else if s.keyTableLock = .exclusive then code = 5
        else code = 0 ∨ (code = 2 ∧ structCommand bs = 1) ∨ (code = 5 ∧ 2 ≤ s.cfg.logicalProcessors)) ∧
      (code ≠ 0 → t.keyTable = s.keyTable) ∧
      (∀ id, id ≠ structKeyId bs → keySlot t.keyTable id = keySlot s.keyTable id) ∧
      (∀ x, x ≠ rax → t.gpr64 x = s.gpr64 x) ∧ SameVecs s t ∧ SameMasks s t ∧ SameMemory s t ∧ t.msr = s.msr ∧
      t.tsc = s.tsc ∧ t.monitor = s.monitor ∧ SameSystem s t ∧ t.rip = s.nextRip

/-- The key-table write of each command on a single logical processor, for a KeyID and an algorithm that pass: direct keys,
random keys mixed with the fields (or ENTROPY_ERROR and no change), the clearing of a key, no encryption (R367, D15). -/
def Obligations.PconfigCommands : Prop :=
  ∀ (p : Pfx) (s u : State) (bs : List Byte), pconfigLegal p s = true → pconfigExits s = false →
    pconfigReady s = true → (pconfigBase s).toNat % 256 = 0 →
    readMem s Access.load .ds (pconfigBase s) 192 = .ok (bs, u) → structReservedClear bs = true →
    pconfigRefusal s bs = none → s.keyTableLock = .unlocked → s.cfg.logicalProcessors ≤ 1 →
    let old := keySlot s.keyTable (structKeyId bs)
    ∃ t, exec (.pconfig p) s = .next t ∧
      (structCommand bs = 0 → t.gpr32 rax = 0#32 ∧ keySlot t.keyTable (structKeyId bs) =
        { dataKey := structDataKey bs, tweakKey := structTweakKey bs, mode := .encryptWithKeyidKey }) ∧
      (structCommand bs = 1 →
        match Config.drawEntropy u.draws, Config.drawEntropy (u.draws + 1) with
        | some r1, some r2 => t.gpr32 rax = 0#32 ∧ keySlot t.keyTable (structKeyId bs) =
            { dataKey := r1 ^^^ structDataKey bs, tweakKey := r2 ^^^ structTweakKey bs, mode := .encryptWithKeyidKey }
        | _, _ => t.gpr32 rax = 2#32 ∧ t.keyTable = s.keyTable) ∧
      (structCommand bs = 2 → t.gpr32 rax = 0#32 ∧ keySlot t.keyTable (structKeyId bs) =
        { dataKey := 0#128, tweakKey := 0#128, mode := .encryptWithTmeKey }) ∧
      (structCommand bs = 3 → t.gpr32 rax = 0#32 ∧ keySlot t.keyTable (structKeyId bs) =
        { dataKey := old.dataKey, tweakKey := old.tweakKey, mode := .noEncryption })

/-- Where PCONFIG does not run: #UD for a prefix, virtual-8086 mode, no feature, CPL above 0, PCONFIG_ENABLE = 0 in a guest;
then a VM exit where PCONFIG_EXITING has the leaf's bit; then #GP(0) for the leaf, the target, IA32_TME_ACTIVATE and the
alignment of the structure; after the read #GP(0) for a reserved byte (R365). -/
def Obligations.PconfigFaults : Prop :=
  ∀ (p : Pfx) (s : State),
    let gp := Fault.exception .gp (if s.mode = .real then none else some 0#32) none
    ((p.forbidden = true ∨ s.mode = .v86 ∨ s.cfg.features.pconfig = false ∨ s.cpl ≠ 0 ∨
        (s.vmx.mode = .nonRoot ∧ s.vmx.vmcs.pconfigEnable = false)) → exec (.pconfig p) s = .fault .undefinedOpcode) ∧
    (pconfigLegal p s = true → s.vmx.mode = .nonRoot →
      s.vmx.vmcs.pconfigExiting.getLsbD (min (s.gpr32 rax).toNat 63) = true →
      exec (.pconfig p) s = .next (s.vmExit .pconfig 0#64)) ∧
    (pconfigLegal p s = true → pconfigExits s = false →
      (s.gpr32 rax ≠ 0#32 ∨ s.cfg.mktmeTarget = false ∨ s.msr.tmeLock = false ∨ s.msr.tmeEnable = false ∨
        s.msr.mkTmeKeyidBits = 0 ∨ (pconfigBase s).toNat % 256 ≠ 0) → exec (.pconfig p) s = .fault gp) ∧
    (∀ bs u, pconfigLegal p s = true → pconfigExits s = false → pconfigReady s = true →
      (pconfigBase s).toNat % 256 = 0 → readMem s Access.load .ds (pconfigBase s) 192 = .ok (bs, u) →
      structReservedClear bs = false → exec (.pconfig p) s = .fault gp)

/-! ## TPAUSE, UMWAIT, UMONITOR -/

/-- TPAUSE and UMWAIT complete at a time not before their start; CF tells that the operating system's limit was in force
and is behind, strictly; the other five status flags are 0; TPAUSE leaves the monitor, UMWAIT may leave it disarmed;
nothing else changes (45_waitpkg.md R381, R385, R386, R388). UMWAIT without an armed monitor does not wait: the counter
stays and CF is 0 (R385, R393 row 19; that no time passes then is log entry 38). That a limit of 0 is no limit is spec
decision D17 (R386); completion in VMX non-root operation is the model's choice, log entry 25 (R391, D23). Where a wait is
entered, when it ends is any time (R387, R392, D11), also where the deadline is already past. -/
def Obligations.WaitCompletes : Prop :=
  ∀ c ∈ [(false, Instr.tpause), (true, .umwait)], ∀ (p : Pfx) (r : GReg) (s : State), p.forbidden = false →
    s.cfg.features.waitpkg = true → (s.gpr32 r).toNat < 2 →
    let limit := (s.msr.umwaitControl &&& 0xFFFFFFFC#32).toNat
    let deadline := (s.gpr32 rdx).toNat * 2 ^ 32 + (s.gpr32 rax).toNat
    ∃ t, exec (c.2 p r) s = .next t ∧ s.tsc.toNat ≤ t.tsc.toNat ∧
      t.rflags = (s.rflags &&& ~~~0x8D5#64) |||
        (if limit ≠ 0 ∧ s.tsc.toNat + limit < deadline ∧ s.tsc.toNat + limit < t.tsc.toNat then 1#64 else 0#64) ∧
      (c.1 = true → s.monitor = none → t.tsc = s.tsc ∧ t.rflags.getLsbD 0 = false) ∧
      (t.monitor = s.monitor ∨ (c.1 = true ∧ t.monitor = none)) ∧
      SameGprs s t ∧ SameVecs s t ∧ SameMasks s t ∧ SameMemory s t ∧ t.msr = s.msr ∧ t.keyTable = s.keyTable ∧
      SameSystem s t ∧ t.rip = s.nextRip

/-- TPAUSE and UMWAIT: #UD without the feature (or under LOCK), else #GP(0) if a bit of the source above bit 0 is set; the
memory form of `0F AE /6` under one of 66H, F2H and F3H (UMONITOR's bytes) is #UD (R389; 30_encoding.md R195). That
#UD comes before #GP(0) is the model's choice, log entry 11: R389 marks that order as general knowledge that is not in the
source, and it is spec decision D9 (R606: outside what the source supports). That the memory form is #UD and not refused
is log entry 45. -/
def Obligations.WaitFaults : Prop :=
  (∀ c ∈ [Instr.tpause, .umwait], ∀ (p : Pfx) (r : GReg) (s : State),
      (p.forbidden = true ∨ s.cfg.features.waitpkg = false → exec (c p r) s = .fault .undefinedOpcode) ∧
      (p.forbidden = false → s.cfg.features.waitpkg = true → 2 ≤ (s.gpr32 r).toNat →
        exec (c p r) s = .fault (.exception .gp (errorCode s .gp) none))) ∧
    (∀ (m : Mem) (p : Prefixes) (x : GReg), x &&& 7#4 = 6#4 →
      [(true, false, false), (false, true, false), (false, false, true)].contains (p.p66, p.f2, p.f3) = true →
      buildAE p x (.mem m) = .undefined)

/-- UMONITOR arms the monitor with the aligned block of the byte it names, or fails to arm it, and changes nothing else; in
64-bit mode a non-canonical address raises #GP(0), or #SS(0) through SS (R382, R384, R390). Without the feature or under
LOCK it raises #UD, and the bytes F3 0F AE /6 with a memory operand decode to #UD in every mode (R390; 30_encoding.md
R195). Arming in VMX non-root operation is the model's choice, log entry 25 (R391, D23). That #UD comes before the fault
of the address is spec decision D9 (R606), log entry 11; that the memory form is #UD and not refused is log entry 45. -/
def Obligations.UmonitorArms : Prop :=
  (∀ (p : Pfx) (r : GReg) (s : State), p.forbidden = true ∨ s.cfg.features.waitpkg = false →
    exec (.umonitor p r) s = .fault .undefinedOpcode) ∧
  (∀ (m : DecodeMode) (modrm : Byte) (rest : List Byte), modrm.extractLsb' 6 2 ≠ 3#2 → modrm.extractLsb' 3 3 = 6#3 →
    5 ≤ rest.length → decode m (0xF3#8 :: 0x0F#8 :: 0xAE#8 :: modrm :: rest) = .undefined) ∧
  ∀ (p : Pfx) (r : GReg) (s : State), p.forbidden = false → s.cfg.features.waitpkg = true →
    (∀ (pa : Nat) (pas : List Nat) (u : State),
      locate s Access.monitored (effSeg s p .ds) (s.gprAddr (s.addrSize p) r) 1 = .ok (pa :: pas, u) →
      ∃ t, exec (.umonitor p r) s = .next t ∧
        (t.monitor = some (pa / monitorSize s.cfg * monitorSize s.cfg) ∨ t.monitor = none) ∧
        SameGprs s t ∧ SameVecs s t ∧ SameMasks s t ∧ t.rflags = s.rflags ∧ SameMemory s t ∧ t.msr = s.msr ∧
        t.tsc = s.tsc ∧ t.keyTable = s.keyTable ∧ SameSystem s t ∧ t.rip = s.nextRip) ∧
    (s.mode = .long →
      canonical s.cfg.linAddrBits (linearAddress s (effSeg s p .ds) (s.gprAddr (s.addrSize p) r)) = false →
      exec (.umonitor p r) s =
        .fault (.exception (if effSeg s p .ds = .ss then .ss else .gp) (some 0#32) none))

/-- A store by another agent to a byte of the monitored block disarms the monitor, whatever its value; the bytes land
(R383). The store lies in the physical address space (20_memory.md R101). -/
def Obligations.AgentStoreTriggersMonitor : Prop :=
  ∀ (s : State) (pa b k : Nat) (bytes : List Byte) (rest : List Input), s.monitor = some b → k < bytes.length →
    b ≤ pa + k → pa + k < b + monitorSize s.cfg → pa + bytes.length ≤ 2 ^ s.cfg.maxPhyAddr →
    ∃ t, step { s with inputs := .storeByAgent pa bytes :: rest } = .next t ∧ t.monitor = none ∧
      (∀ i, i < bytes.length → t.byte (pa + i) = bytes.getD i 0#8) ∧
      (∀ a, a < pa ∨ pa + bytes.length ≤ a → t.byte a = s.byte a) ∧ SameGprs s t ∧ t.rip = s.rip

/-! ## EPT, Intel PT, hardware feedback, split locks -/

/-- Sub-page write permissions: what a write to a page mapped without write access does (50 R504, R507, R510, R511), for a
write inside one 128-byte region, off the APIC-access page and outside enclaves. The "Not used" bits of the exit
qualification are 0 by spec decision D41. Its bit 12 (NMI unblocking due to IRET), which D41 leaves any(Bool) and R511
constrains only outside IRET, is 0 by the model's choice, log entry 32. -/
def Obligations.SubPageDecision : Prop :=
  ∀ (s : State) (la : Word64) (gpa n : Nat) (e : EptEntry), s.mode = .long → 0 < n → gpa % 128 + n ≤ 128 →
    eptFind s gpa = some e →
    e.misconfigured = false → s.onApicPage (s.physical (e.paBase + (gpa - e.gpaBase))) = false →
    s.vmx.enclaveMode = false →
    let pa := s.physical (e.paBase + (gpa - e.gpaBase))
    (e.accW = true → eptChunk s .write false false la gpa n = .ok (pa, s)) ∧
    (e.accW = false → (s.sppOn = false ∨ e.size ≠ .k4 ∨ e.spp = false) →
      eptChunk s .write false false la gpa n = .error (eptViolation s la gpa)) ∧
    (e.accW = false → s.sppOn = true → e.size = .k4 → e.spp = true →
      match sppLookup s gpa with
      | (.permissions l1e, t) =>
        if l1e.getLsbD (2 * (gpa % 4096 / 128)) = true then eptChunk s .write false false la gpa n = .ok (pa, t)
        else eptChunk s .write false false la gpa n = .error (eptViolation t la gpa)
      | (.miss, _) => ∃ t, eptChunk s .write false false la gpa n = .error (.exit t) ∧
          t.vmx.vmcs.exitReasonField = some 66#32 ∧ t.vmx.vmcs.exitQualification = 0x800#64 ∧
          t.vmx.vmcs.guestLinearAddress = la ∧ t.vmx.vmcs.guestPhysicalAddress = BitVec.ofNat 64 gpa ∧
          t.rip = s.rip ∧ SameMemory s t
      | (.misconfiguration, _) => ∃ t, eptChunk s .write false false la gpa n = .error (.exit t) ∧
          t.vmx.vmcs.exitReasonField = some 66#32 ∧ t.vmx.vmcs.exitQualification = 0#64 ∧
          t.vmx.vmcs.guestLinearAddress = la ∧ t.vmx.vmcs.guestPhysicalAddress = BitVec.ofNat 64 gpa ∧
          t.rip = s.rip ∧ SameMemory s t)

/-- The sub-page-permission walk with nothing cached: a reserved bit at any level is a misconfiguration, a clear valid bit
at levels 4 to 2 a miss; otherwise the L1E at the address the four 9-bit indexes select (R506, R507). For an entry with
both defects the reserved bits are tested first: spec decision D40 (a model may not depend on the order), log entry 11. -/
def Obligations.SubPageWalk : Prop :=
  ∀ (s : State) (gpa : Nat), s.vmx.sppCache = [] →
    let at_ : Word64 → Nat → Word64 := fun base lo => s.phys64 (base.toNat / 4096 % 2 ^ 40 * 4096 + gpa / 2 ^ lo % 512 * 8)
    let bad : Word64 → Bool := fun e => e.extractLsb' 1 11 != 0#11 || decide (2 ^ s.cfg.maxPhyAddr ≤ e.toNat)
    let e4 := at_ s.vmx.vmcs.spptp 39
    let e3 := at_ e4 30
    let e2 := at_ e3 21
    let e1 := at_ e2 12
    (sppLookup s gpa).1 =
      if bad e4 then .misconfiguration else if e4.getLsbD 0 = false then .miss
      else if bad e3 then .misconfiguration else if e3.getLsbD 0 = false then .miss
      else if bad e2 then .misconfiguration else if e2.getLsbD 0 = false then .miss
      else if e1 &&& 0xAAAAAAAAAAAAAAAA#64 ≠ 0#64 then .misconfiguration else .permissions e1

/-- Every VM exit a step takes, but for a failed VM entry, saves IA32_RTIT_CTL in the guest-state field, where the field
exists, and clears it where exit control 25 says so; VMX root operation follows (51_intel_pt_vmx.md R541, R542). The field
exists where a control of Table 4-1 is supported (R544, D47). -/
def Obligations.VmExitSavesTraceControl : Prop :=
  ∀ s t : State, step s = .next t → s.vmx.handedOver = false → t.vmx.handedOver = true →
    (∀ len, s.inputs.head? ≠ some (.vmEntry len)) →
    let f := s.cfg.features.ptVmx
    let clears := f && s.msr.vmxExitCtls.getLsbD 57 && s.msr.vmxTrueExitCtls.getLsbD 57
    let loads := f && s.msr.vmxEntryCtls.getLsbD 50 && s.msr.vmxTrueEntryCtls.getLsbD 50
    t.vmx.mode = .root ∧ ((clears || loads) = true → t.vmx.vmcs.guestRtitCtl = s.msr.rtitCtl) ∧
      (clears = true → s.vmx.vmcs.exitCtl.getLsbD 25 = true → t.msr.rtitCtl = 0#64)

/-- VM entry in VMX root operation: a failed control check, or a control that the processor does not support, sets ZF, the
error number 7 and goes on; a failed guest-state check loads the guest-state area and is an exit whose reason field holds
33 with bit 31; otherwise the guest runs at its RIP with IA32_RTIT_CTL loaded where entry control 18 says so (50 R520,
R521; 51 R543, R544, R556). That an unsupported control of Chapter 4 fails the entry is log entry 30. -/
def Obligations.VmEntryChecks : Prop :=
  ∀ (s : State) (len : Nat) (rest : List Input), s.vmx.mode = .root →
    let v := s.vmx.vmcs
    let on := fun n => v.primaryCtl.getLsbD 31 && v.secondaryCtl.getLsbD n
    let spp := s.cfg.features.spp && s.msr.vmxProcbasedCtls2.getLsbD 55
    let guestPt := s.cfg.features.ptVmx && s.msr.vmxProcbasedCtls2.getLsbD 56
    let clears := s.cfg.features.ptVmx && s.msr.vmxExitCtls.getLsbD 57 && s.msr.vmxTrueExitCtls.getLsbD 57
    let loads := s.cfg.features.ptVmx && s.msr.vmxEntryCtls.getLsbD 50 && s.msr.vmxTrueEntryCtls.getLsbD 50
    let bad := (on 23 && (!spp || !v.enableEpt || decide (2 ^ s.cfg.maxPhyAddr ≤ v.spptp.toNat) ||
        (s.cfg.spptpLowChecked && decide (v.spptp.toNat % 4096 ≠ 0)))) ||
      (on 24 && (!guestPt || !v.exitCtl.getLsbD 25 || !v.entryCtl.getLsbD 18 || !v.enableEpt)) ||
      (v.exitCtl.getLsbD 25 && !clears) || (v.entryCtl.getLsbD 18 && !loads)
    let valid := Config.rtitCtlValid v.guestRtitCtl
    let badGuest := v.entryCtl.getLsbD 18 && (s.msr.rtitCtl.getLsbD 0 || !valid)
    ∃ t, step { s with inputs := .vmEntry len :: rest } = .next t ∧
      (bad = true → t.rflags.getLsbD 6 = true ∧ t.vmx.vmcs.vmInstructionError = 7#32 ∧ t.vmx.mode = .root ∧
        t.rip = ripPlus s len ∧ t.msr.rtitCtl = s.msr.rtitCtl) ∧
      (bad = false → badGuest = true →
        t.vmx.vmcs.exitReasonField = some 0x80000021#32 ∧ t.vmx.mode = .root ∧ t.vmx.handedOver = true ∧
          t.rip = v.guestRip ∧
          t.msr.rtitCtl =
            if v.exitCtl.getLsbD 25 then 0#64 else if valid then v.guestRtitCtl else s.msr.rtitCtl) ∧
      (bad = false → badGuest = false → t.vmx.mode = .nonRoot ∧ t.rip = v.guestRip ∧
        t.msr.rtitCtl = if v.entryCtl.getLsbD 18 then v.guestRtitCtl else s.msr.rtitCtl) ∧
      SameGprs s t ∧ SameMemory s t

/-- The hardware feedback agent: it writes memory only while the status bit is clear, to the structure of an enabled
interface with a valid pointer or to one that an update already in progress may go to, only inside that structure, and
then sets the status bit and, where enabled, the interrupt event; after that no update is in progress, and where the
interface is disabled the disabling is acknowledged (52_hardware_feedback_interface.md R576, R577, R580). To which
structures an update in progress may go after a disabling is log entry 27. -/
def Obligations.FeedbackUpdate : Prop :=
  ∀ (s t : State) (target : Nat) (rows : List HfiRow) (ts : Word64) (cp ce : Bool) (rest : List Input),
    step { s with inputs := .hfiUpdate target rows ts cp ce :: rest } = .next t → (∃ a, t.byte a ≠ s.byte a) →
    s.cfg.features.hfi = true ∧ s.msr.packageThermStatus.getLsbD 26 = false ∧
      t.msr.packageThermStatus.getLsbD 26 = true ∧
      (s.msr.packageThermInterrupt.getLsbD 25 = true → t.hfi.interruptPending = true) ∧ t.hfi.inFlight = [] ∧
      (s.msr.hwFeedbackConfig.getLsbD 0 = false → t.hfi.disabling = false) ∧
      (∃ base, (s.msr.hwFeedbackConfig.getLsbD 0 = true ∧ s.msr.hwFeedbackPtr.getLsbD 0 = true ∧
            base = s.msr.hwFeedbackPtr.toNat / 4096 % 2 ^ (s.cfg.maxPhyAddr - 12) * 4096 ∨ base ∈ s.hfi.inFlight) ∧
        (∀ a, t.byte a ≠ s.byte a → base ≤ a ∧ a < base + 4096 * s.cfg.hfiPages) ∧
        (base + 8 ≤ 2 ^ s.cfg.maxPhyAddr → ∀ i, i < 8 → t.byte (base + i) = ts.extractLsb' (8 * i) 8)) ∧
      s.hfi.lastTimestamp ≤ ts ∧ t.hfi.lastTimestamp = ts

/-- Split locks: with TEST_CTL[29] set a locked access whose bytes lie in two cache lines, of the size that CPUID leaf 01H
reports (`CpuidLeaves`; a line has 8 bytes at least: log entry 2), raises #AC(0) at every CPL,
whatever TEST_CTL[31], CR0.AM and EFLAGS.AC are (in real-address mode without the code, 60_exceptions.md R601); any other
locked access stores its bytes as a plain write would (53_split_lock_detection.md R591, R592). The segment, canonical and
page checks of a plain write come first and their fault stands: spec decision D51. The access is an input, since its
instruction is outside the spec: log entry 39. -/
def Obligations.SplitLockFaults : Prop :=
  ∀ (s : State) (seg : Seg) (off : Word64) (bytes : List Byte) (rest : List Input), s.cfg.features.splitLock = true →
    let s0 : State := { s with inputs := .lockedAccess seg off bytes :: rest }
    let v : State := { s0.tick with inputs := rest }
    let la := linearAddress s seg off
    let split := la.toNat / s.cfg.clflushLine ≠ (la.toNat + bytes.length - 1) / s.cfg.clflushLine
    (∀ pas u, locate v Access.store seg off bytes.length = .ok (pas, u) →
      (s.msr.testCtl.getLsbD 29 = true → split →
        step s0 = .fault (.exception .ac (if s.mode = .real then none else some 0#32) none)) ∧
      (s.msr.testCtl.getLsbD 29 = false ∨ ¬ split →
        ∃ t, step s0 = .next t ∧ SameGprs s t ∧ SameMemoryBut pas s t ∧
          (pas.Nodup → ∀ i, i < bytes.length → t.byte (pas.getD i 0) = bytes.getD i 0#8))) ∧
    (∀ f, s.vmx.enclaveMode = false → locate v Access.store seg off bytes.length = .error (.fault f) →
      step s0 = .fault f)
end

