-- ==== Sys2Proof/Laws/State.lean ====
section
/-! SUPPORT. One lemma for each field under each update of the state, and what reading a register after writing one
gives: later proofs cite these and do not unfold a record update. -/

namespace Sys2Proof.Machine

variable (s : State)

/-! ### `State.setGpr64` -/

@[simp] theorem State.setGpr64_cfg (r : GReg) (v : Word64) : (s.setGpr64 r v).cfg = s.cfg := rfl
@[simp] theorem State.setGpr64_gpr (r : GReg) (v : Word64) : (s.setGpr64 r v).gpr = s.gpr.set r.toNat v r.isLt := rfl
@[simp] theorem State.setGpr64_rip (r : GReg) (v : Word64) : (s.setGpr64 r v).rip = s.rip := rfl
@[simp] theorem State.setGpr64_nextRip (r : GReg) (v : Word64) : (s.setGpr64 r v).nextRip = s.nextRip := rfl
@[simp] theorem State.setGpr64_rflags (r : GReg) (v : Word64) : (s.setGpr64 r v).rflags = s.rflags := rfl
@[simp] theorem State.setGpr64_sys (r : GReg) (v : Word64) : (s.setGpr64 r v).sys = s.sys := rfl
@[simp] theorem State.setGpr64_zmm (r : GReg) (v : Word64) : (s.setGpr64 r v).zmm = s.zmm := rfl
@[simp] theorem State.setGpr64_k (r : GReg) (v : Word64) : (s.setGpr64 r v).k = s.k := rfl
@[simp] theorem State.setGpr64_msr (r : GReg) (v : Word64) : (s.setGpr64 r v).msr = s.msr := rfl
@[simp] theorem State.setGpr64_tsc (r : GReg) (v : Word64) : (s.setGpr64 r v).tsc = s.tsc := rfl
@[simp] theorem State.setGpr64_vmx (r : GReg) (v : Word64) : (s.setGpr64 r v).vmx = s.vmx := rfl
@[simp] theorem State.setGpr64_monitor (r : GReg) (v : Word64) : (s.setGpr64 r v).monitor = s.monitor := rfl
@[simp] theorem State.setGpr64_keyTable (r : GReg) (v : Word64) : (s.setGpr64 r v).keyTable = s.keyTable := rfl
@[simp] theorem State.setGpr64_keyTableLock (r : GReg) (v : Word64) : (s.setGpr64 r v).keyTableLock = s.keyTableLock := rfl
@[simp] theorem State.setGpr64_hfi (r : GReg) (v : Word64) : (s.setGpr64 r v).hfi = s.hfi := rfl
@[simp] theorem State.setGpr64_pt (r : GReg) (v : Word64) : (s.setGpr64 r v).pt = s.pt := rfl
@[simp] theorem State.setGpr64_paging (r : GReg) (v : Word64) : (s.setGpr64 r v).paging = s.paging := rfl
@[simp] theorem State.setGpr64_mem (r : GReg) (v : Word64) : (s.setGpr64 r v).mem = s.mem := rfl
@[simp] theorem State.setGpr64_stale (r : GReg) (v : Word64) : (s.setGpr64 r v).stale = s.stale := rfl
@[simp] theorem State.setGpr64_inputs (r : GReg) (v : Word64) : (s.setGpr64 r v).inputs = s.inputs := rfl
@[simp] theorem State.setGpr64_draws (r : GReg) (v : Word64) : (s.setGpr64 r v).draws = s.draws := rfl

/-! ### `State.setVec` -/

@[simp] theorem State.setVec_cfg (r : VReg) (v : Vec) : (s.setVec r v).cfg = s.cfg := rfl
@[simp] theorem State.setVec_gpr (r : VReg) (v : Vec) : (s.setVec r v).gpr = s.gpr := rfl
@[simp] theorem State.setVec_rip (r : VReg) (v : Vec) : (s.setVec r v).rip = s.rip := rfl
@[simp] theorem State.setVec_nextRip (r : VReg) (v : Vec) : (s.setVec r v).nextRip = s.nextRip := rfl
@[simp] theorem State.setVec_rflags (r : VReg) (v : Vec) : (s.setVec r v).rflags = s.rflags := rfl
@[simp] theorem State.setVec_sys (r : VReg) (v : Vec) : (s.setVec r v).sys = s.sys := rfl
@[simp] theorem State.setVec_zmm (r : VReg) (v : Vec) : (s.setVec r v).zmm = s.zmm.set r.toNat v r.isLt := rfl
@[simp] theorem State.setVec_k (r : VReg) (v : Vec) : (s.setVec r v).k = s.k := rfl
@[simp] theorem State.setVec_msr (r : VReg) (v : Vec) : (s.setVec r v).msr = s.msr := rfl
@[simp] theorem State.setVec_tsc (r : VReg) (v : Vec) : (s.setVec r v).tsc = s.tsc := rfl
@[simp] theorem State.setVec_vmx (r : VReg) (v : Vec) : (s.setVec r v).vmx = s.vmx := rfl
@[simp] theorem State.setVec_monitor (r : VReg) (v : Vec) : (s.setVec r v).monitor = s.monitor := rfl
@[simp] theorem State.setVec_keyTable (r : VReg) (v : Vec) : (s.setVec r v).keyTable = s.keyTable := rfl
@[simp] theorem State.setVec_keyTableLock (r : VReg) (v : Vec) : (s.setVec r v).keyTableLock = s.keyTableLock := rfl
@[simp] theorem State.setVec_hfi (r : VReg) (v : Vec) : (s.setVec r v).hfi = s.hfi := rfl
@[simp] theorem State.setVec_pt (r : VReg) (v : Vec) : (s.setVec r v).pt = s.pt := rfl
@[simp] theorem State.setVec_paging (r : VReg) (v : Vec) : (s.setVec r v).paging = s.paging := rfl
@[simp] theorem State.setVec_mem (r : VReg) (v : Vec) : (s.setVec r v).mem = s.mem := rfl
@[simp] theorem State.setVec_stale (r : VReg) (v : Vec) : (s.setVec r v).stale = s.stale := rfl
@[simp] theorem State.setVec_inputs (r : VReg) (v : Vec) : (s.setVec r v).inputs = s.inputs := rfl
@[simp] theorem State.setVec_draws (r : VReg) (v : Vec) : (s.setVec r v).draws = s.draws := rfl

/-! ### `State.setOpmask` -/

@[simp] theorem State.setOpmask_cfg (r : KReg) (v : Word64) : (s.setOpmask r v).cfg = s.cfg := rfl
@[simp] theorem State.setOpmask_gpr (r : KReg) (v : Word64) : (s.setOpmask r v).gpr = s.gpr := rfl
@[simp] theorem State.setOpmask_rip (r : KReg) (v : Word64) : (s.setOpmask r v).rip = s.rip := rfl
@[simp] theorem State.setOpmask_nextRip (r : KReg) (v : Word64) : (s.setOpmask r v).nextRip = s.nextRip := rfl
@[simp] theorem State.setOpmask_rflags (r : KReg) (v : Word64) : (s.setOpmask r v).rflags = s.rflags := rfl
@[simp] theorem State.setOpmask_sys (r : KReg) (v : Word64) : (s.setOpmask r v).sys = s.sys := rfl
@[simp] theorem State.setOpmask_zmm (r : KReg) (v : Word64) : (s.setOpmask r v).zmm = s.zmm := rfl
@[simp] theorem State.setOpmask_k (r : KReg) (v : Word64) : (s.setOpmask r v).k = s.k.set r.toNat v r.isLt := rfl
@[simp] theorem State.setOpmask_msr (r : KReg) (v : Word64) : (s.setOpmask r v).msr = s.msr := rfl
@[simp] theorem State.setOpmask_tsc (r : KReg) (v : Word64) : (s.setOpmask r v).tsc = s.tsc := rfl
@[simp] theorem State.setOpmask_vmx (r : KReg) (v : Word64) : (s.setOpmask r v).vmx = s.vmx := rfl
@[simp] theorem State.setOpmask_monitor (r : KReg) (v : Word64) : (s.setOpmask r v).monitor = s.monitor := rfl
@[simp] theorem State.setOpmask_keyTable (r : KReg) (v : Word64) : (s.setOpmask r v).keyTable = s.keyTable := rfl
@[simp] theorem State.setOpmask_keyTableLock (r : KReg) (v : Word64) : (s.setOpmask r v).keyTableLock = s.keyTableLock := rfl
@[simp] theorem State.setOpmask_hfi (r : KReg) (v : Word64) : (s.setOpmask r v).hfi = s.hfi := rfl
@[simp] theorem State.setOpmask_pt (r : KReg) (v : Word64) : (s.setOpmask r v).pt = s.pt := rfl
@[simp] theorem State.setOpmask_paging (r : KReg) (v : Word64) : (s.setOpmask r v).paging = s.paging := rfl
@[simp] theorem State.setOpmask_mem (r : KReg) (v : Word64) : (s.setOpmask r v).mem = s.mem := rfl
@[simp] theorem State.setOpmask_stale (r : KReg) (v : Word64) : (s.setOpmask r v).stale = s.stale := rfl
@[simp] theorem State.setOpmask_inputs (r : KReg) (v : Word64) : (s.setOpmask r v).inputs = s.inputs := rfl
@[simp] theorem State.setOpmask_draws (r : KReg) (v : Word64) : (s.setOpmask r v).draws = s.draws := rfl

/-! ### `State.setRflags` -/

@[simp] theorem State.setRflags_cfg (v : Word64) : (s.setRflags v).cfg = s.cfg := rfl
@[simp] theorem State.setRflags_gpr (v : Word64) : (s.setRflags v).gpr = s.gpr := rfl
@[simp] theorem State.setRflags_rip (v : Word64) : (s.setRflags v).rip = s.rip := rfl
@[simp] theorem State.setRflags_nextRip (v : Word64) : (s.setRflags v).nextRip = s.nextRip := rfl
@[simp] theorem State.setRflags_rflags (v : Word64) : (s.setRflags v).rflags = v := rfl
@[simp] theorem State.setRflags_sys (v : Word64) : (s.setRflags v).sys = s.sys := rfl
@[simp] theorem State.setRflags_zmm (v : Word64) : (s.setRflags v).zmm = s.zmm := rfl
@[simp] theorem State.setRflags_k (v : Word64) : (s.setRflags v).k = s.k := rfl
@[simp] theorem State.setRflags_msr (v : Word64) : (s.setRflags v).msr = s.msr := rfl
@[simp] theorem State.setRflags_tsc (v : Word64) : (s.setRflags v).tsc = s.tsc := rfl
@[simp] theorem State.setRflags_vmx (v : Word64) : (s.setRflags v).vmx = s.vmx := rfl
@[simp] theorem State.setRflags_monitor (v : Word64) : (s.setRflags v).monitor = s.monitor := rfl
@[simp] theorem State.setRflags_keyTable (v : Word64) : (s.setRflags v).keyTable = s.keyTable := rfl
@[simp] theorem State.setRflags_keyTableLock (v : Word64) : (s.setRflags v).keyTableLock = s.keyTableLock := rfl
@[simp] theorem State.setRflags_hfi (v : Word64) : (s.setRflags v).hfi = s.hfi := rfl
@[simp] theorem State.setRflags_pt (v : Word64) : (s.setRflags v).pt = s.pt := rfl
@[simp] theorem State.setRflags_paging (v : Word64) : (s.setRflags v).paging = s.paging := rfl
@[simp] theorem State.setRflags_mem (v : Word64) : (s.setRflags v).mem = s.mem := rfl
@[simp] theorem State.setRflags_stale (v : Word64) : (s.setRflags v).stale = s.stale := rfl
@[simp] theorem State.setRflags_inputs (v : Word64) : (s.setRflags v).inputs = s.inputs := rfl
@[simp] theorem State.setRflags_draws (v : Word64) : (s.setRflags v).draws = s.draws := rfl

/-! ### `State.complete` -/

@[simp] theorem State.complete_cfg  : (s.complete).cfg = s.cfg := rfl
@[simp] theorem State.complete_gpr  : (s.complete).gpr = s.gpr := rfl
@[simp] theorem State.complete_rip  : (s.complete).rip = s.nextRip := rfl
@[simp] theorem State.complete_nextRip  : (s.complete).nextRip = s.nextRip := rfl
@[simp] theorem State.complete_rflags  : (s.complete).rflags = s.rflags := rfl
@[simp] theorem State.complete_sys  : (s.complete).sys = s.sys := rfl
@[simp] theorem State.complete_zmm  : (s.complete).zmm = s.zmm := rfl
@[simp] theorem State.complete_k  : (s.complete).k = s.k := rfl
@[simp] theorem State.complete_msr  : (s.complete).msr = s.msr := rfl
@[simp] theorem State.complete_tsc  : (s.complete).tsc = s.tsc := rfl
@[simp] theorem State.complete_vmx  : (s.complete).vmx = s.vmx := rfl
@[simp] theorem State.complete_monitor  : (s.complete).monitor = s.monitor := rfl
@[simp] theorem State.complete_keyTable  : (s.complete).keyTable = s.keyTable := rfl
@[simp] theorem State.complete_keyTableLock  : (s.complete).keyTableLock = s.keyTableLock := rfl
@[simp] theorem State.complete_hfi  : (s.complete).hfi = s.hfi := rfl
@[simp] theorem State.complete_pt  : (s.complete).pt = s.pt := rfl
@[simp] theorem State.complete_paging  : (s.complete).paging = s.paging := rfl
@[simp] theorem State.complete_mem  : (s.complete).mem = s.mem := rfl
@[simp] theorem State.complete_stale  : (s.complete).stale = s.stale := rfl
@[simp] theorem State.complete_inputs  : (s.complete).inputs = s.inputs := rfl
@[simp] theorem State.complete_draws  : (s.complete).draws = s.draws := rfl

/-! ### `State.serialize` -/

@[simp] theorem State.serialize_cfg  : (s.serialize).cfg = s.cfg := rfl
@[simp] theorem State.serialize_gpr  : (s.serialize).gpr = s.gpr := rfl
@[simp] theorem State.serialize_rip  : (s.serialize).rip = s.rip := rfl
@[simp] theorem State.serialize_nextRip  : (s.serialize).nextRip = s.nextRip := rfl
@[simp] theorem State.serialize_rflags  : (s.serialize).rflags = s.rflags := rfl
@[simp] theorem State.serialize_sys  : (s.serialize).sys = s.sys := rfl
@[simp] theorem State.serialize_zmm  : (s.serialize).zmm = s.zmm := rfl
@[simp] theorem State.serialize_k  : (s.serialize).k = s.k := rfl
@[simp] theorem State.serialize_msr  : (s.serialize).msr = s.msr := rfl
@[simp] theorem State.serialize_tsc  : (s.serialize).tsc = s.tsc := rfl
@[simp] theorem State.serialize_vmx  : (s.serialize).vmx = s.vmx := rfl
@[simp] theorem State.serialize_monitor  : (s.serialize).monitor = s.monitor := rfl
@[simp] theorem State.serialize_keyTable  : (s.serialize).keyTable = s.keyTable := rfl
@[simp] theorem State.serialize_keyTableLock  : (s.serialize).keyTableLock = s.keyTableLock := rfl
@[simp] theorem State.serialize_hfi  : (s.serialize).hfi = s.hfi := rfl
@[simp] theorem State.serialize_pt  : (s.serialize).pt = s.pt := rfl
@[simp] theorem State.serialize_paging  : (s.serialize).paging = s.paging := rfl
@[simp] theorem State.serialize_mem  : (s.serialize).mem = s.mem := rfl
@[simp] theorem State.serialize_stale  : (s.serialize).stale = [] := rfl
@[simp] theorem State.serialize_inputs  : (s.serialize).inputs = s.inputs := rfl
@[simp] theorem State.serialize_draws  : (s.serialize).draws = s.draws := rfl

/-! ### `State.drawn` -/

@[simp] theorem State.drawn_cfg  : (s.drawn).cfg = s.cfg := rfl
@[simp] theorem State.drawn_gpr  : (s.drawn).gpr = s.gpr := rfl
@[simp] theorem State.drawn_rip  : (s.drawn).rip = s.rip := rfl
@[simp] theorem State.drawn_nextRip  : (s.drawn).nextRip = s.nextRip := rfl
@[simp] theorem State.drawn_rflags  : (s.drawn).rflags = s.rflags := rfl
@[simp] theorem State.drawn_sys  : (s.drawn).sys = s.sys := rfl
@[simp] theorem State.drawn_zmm  : (s.drawn).zmm = s.zmm := rfl
@[simp] theorem State.drawn_k  : (s.drawn).k = s.k := rfl
@[simp] theorem State.drawn_msr  : (s.drawn).msr = s.msr := rfl
@[simp] theorem State.drawn_tsc  : (s.drawn).tsc = s.tsc := rfl
@[simp] theorem State.drawn_vmx  : (s.drawn).vmx = s.vmx := rfl
@[simp] theorem State.drawn_monitor  : (s.drawn).monitor = s.monitor := rfl
@[simp] theorem State.drawn_keyTable  : (s.drawn).keyTable = s.keyTable := rfl
@[simp] theorem State.drawn_keyTableLock  : (s.drawn).keyTableLock = s.keyTableLock := rfl
@[simp] theorem State.drawn_hfi  : (s.drawn).hfi = s.hfi := rfl
@[simp] theorem State.drawn_pt  : (s.drawn).pt = s.pt := rfl
@[simp] theorem State.drawn_paging  : (s.drawn).paging = s.paging := rfl
@[simp] theorem State.drawn_mem  : (s.drawn).mem = s.mem := rfl
@[simp] theorem State.drawn_stale  : (s.drawn).stale = s.stale := rfl
@[simp] theorem State.drawn_inputs  : (s.drawn).inputs = s.inputs := rfl
@[simp] theorem State.drawn_draws  : (s.drawn).draws = s.draws + 1 := rfl

/-! ### `State.putBytes` -/

@[simp] theorem State.putBytes_cfg (c : List (Nat × Byte)) : (s.putBytes c).cfg = s.cfg := rfl
@[simp] theorem State.putBytes_gpr (c : List (Nat × Byte)) : (s.putBytes c).gpr = s.gpr := rfl
@[simp] theorem State.putBytes_rip (c : List (Nat × Byte)) : (s.putBytes c).rip = s.rip := rfl
@[simp] theorem State.putBytes_nextRip (c : List (Nat × Byte)) : (s.putBytes c).nextRip = s.nextRip := rfl
@[simp] theorem State.putBytes_rflags (c : List (Nat × Byte)) : (s.putBytes c).rflags = s.rflags := rfl
@[simp] theorem State.putBytes_sys (c : List (Nat × Byte)) : (s.putBytes c).sys = s.sys := rfl
@[simp] theorem State.putBytes_zmm (c : List (Nat × Byte)) : (s.putBytes c).zmm = s.zmm := rfl
@[simp] theorem State.putBytes_k (c : List (Nat × Byte)) : (s.putBytes c).k = s.k := rfl
@[simp] theorem State.putBytes_msr (c : List (Nat × Byte)) : (s.putBytes c).msr = s.msr := rfl
@[simp] theorem State.putBytes_tsc (c : List (Nat × Byte)) : (s.putBytes c).tsc = s.tsc := rfl
@[simp] theorem State.putBytes_vmx (c : List (Nat × Byte)) : (s.putBytes c).vmx = s.vmx := rfl
@[simp] theorem State.putBytes_monitor (c : List (Nat × Byte)) : (s.putBytes c).monitor = s.monitor := rfl
@[simp] theorem State.putBytes_keyTable (c : List (Nat × Byte)) : (s.putBytes c).keyTable = s.keyTable := rfl
@[simp] theorem State.putBytes_keyTableLock (c : List (Nat × Byte)) : (s.putBytes c).keyTableLock = s.keyTableLock := rfl
@[simp] theorem State.putBytes_hfi (c : List (Nat × Byte)) : (s.putBytes c).hfi = s.hfi := rfl
@[simp] theorem State.putBytes_pt (c : List (Nat × Byte)) : (s.putBytes c).pt = s.pt := rfl
@[simp] theorem State.putBytes_paging (c : List (Nat × Byte)) : (s.putBytes c).paging = s.paging := rfl
@[simp] theorem State.putBytes_mem (c : List (Nat × Byte)) : (s.putBytes c).mem = memSetMany s.mem c := rfl
@[simp] theorem State.putBytes_stale (c : List (Nat × Byte)) : (s.putBytes c).stale = (c.map fun x => (x.1, s.byte x.1)) ++ s.stale := rfl
@[simp] theorem State.putBytes_inputs (c : List (Nat × Byte)) : (s.putBytes c).inputs = s.inputs := rfl
@[simp] theorem State.putBytes_draws (c : List (Nat × Byte)) : (s.putBytes c).draws = s.draws := rfl

/-! ### `State.setKey` -/

@[simp] theorem State.setKey_cfg (i : Nat) (e : KeySlot) : (s.setKey i e).cfg = s.cfg := rfl
@[simp] theorem State.setKey_gpr (i : Nat) (e : KeySlot) : (s.setKey i e).gpr = s.gpr := rfl
@[simp] theorem State.setKey_rip (i : Nat) (e : KeySlot) : (s.setKey i e).rip = s.rip := rfl
@[simp] theorem State.setKey_nextRip (i : Nat) (e : KeySlot) : (s.setKey i e).nextRip = s.nextRip := rfl
@[simp] theorem State.setKey_rflags (i : Nat) (e : KeySlot) : (s.setKey i e).rflags = s.rflags := rfl
@[simp] theorem State.setKey_sys (i : Nat) (e : KeySlot) : (s.setKey i e).sys = s.sys := rfl
@[simp] theorem State.setKey_zmm (i : Nat) (e : KeySlot) : (s.setKey i e).zmm = s.zmm := rfl
@[simp] theorem State.setKey_k (i : Nat) (e : KeySlot) : (s.setKey i e).k = s.k := rfl
@[simp] theorem State.setKey_msr (i : Nat) (e : KeySlot) : (s.setKey i e).msr = s.msr := rfl
@[simp] theorem State.setKey_tsc (i : Nat) (e : KeySlot) : (s.setKey i e).tsc = s.tsc := rfl
@[simp] theorem State.setKey_vmx (i : Nat) (e : KeySlot) : (s.setKey i e).vmx = s.vmx := rfl
@[simp] theorem State.setKey_monitor (i : Nat) (e : KeySlot) : (s.setKey i e).monitor = s.monitor := rfl
@[simp] theorem State.setKey_keyTable (i : Nat) (e : KeySlot) : (s.setKey i e).keyTable = setKeySlot s.keyTable i e := rfl
@[simp] theorem State.setKey_keyTableLock (i : Nat) (e : KeySlot) : (s.setKey i e).keyTableLock = s.keyTableLock := rfl
@[simp] theorem State.setKey_hfi (i : Nat) (e : KeySlot) : (s.setKey i e).hfi = s.hfi := rfl
@[simp] theorem State.setKey_pt (i : Nat) (e : KeySlot) : (s.setKey i e).pt = s.pt := rfl
@[simp] theorem State.setKey_paging (i : Nat) (e : KeySlot) : (s.setKey i e).paging = s.paging := rfl
@[simp] theorem State.setKey_mem (i : Nat) (e : KeySlot) : (s.setKey i e).mem = s.mem := rfl
@[simp] theorem State.setKey_stale (i : Nat) (e : KeySlot) : (s.setKey i e).stale = s.stale := rfl
@[simp] theorem State.setKey_inputs (i : Nat) (e : KeySlot) : (s.setKey i e).inputs = s.inputs := rfl
@[simp] theorem State.setKey_draws (i : Nat) (e : KeySlot) : (s.setKey i e).draws = s.draws := rfl

/-! ### `State.loadBiosSign` -/

@[simp] theorem State.loadBiosSign_cfg  : (s.loadBiosSign).cfg = s.cfg := rfl
@[simp] theorem State.loadBiosSign_gpr  : (s.loadBiosSign).gpr = s.gpr := rfl
@[simp] theorem State.loadBiosSign_rip  : (s.loadBiosSign).rip = s.rip := rfl
@[simp] theorem State.loadBiosSign_nextRip  : (s.loadBiosSign).nextRip = s.nextRip := rfl
@[simp] theorem State.loadBiosSign_rflags  : (s.loadBiosSign).rflags = s.rflags := rfl
@[simp] theorem State.loadBiosSign_sys  : (s.loadBiosSign).sys = s.sys := rfl
@[simp] theorem State.loadBiosSign_zmm  : (s.loadBiosSign).zmm = s.zmm := rfl
@[simp] theorem State.loadBiosSign_k  : (s.loadBiosSign).k = s.k := rfl
@[simp] theorem State.loadBiosSign_msr  : (s.loadBiosSign).msr = { s.msr with biosSignId := s.cfg.microcodeRevision ++ s.msr.biosSignId.setWidth 32 } := rfl
@[simp] theorem State.loadBiosSign_tsc  : (s.loadBiosSign).tsc = s.tsc := rfl
@[simp] theorem State.loadBiosSign_vmx  : (s.loadBiosSign).vmx = s.vmx := rfl
@[simp] theorem State.loadBiosSign_monitor  : (s.loadBiosSign).monitor = s.monitor := rfl
@[simp] theorem State.loadBiosSign_keyTable  : (s.loadBiosSign).keyTable = s.keyTable := rfl
@[simp] theorem State.loadBiosSign_keyTableLock  : (s.loadBiosSign).keyTableLock = s.keyTableLock := rfl
@[simp] theorem State.loadBiosSign_hfi  : (s.loadBiosSign).hfi = s.hfi := rfl
@[simp] theorem State.loadBiosSign_pt  : (s.loadBiosSign).pt = s.pt := rfl
@[simp] theorem State.loadBiosSign_paging  : (s.loadBiosSign).paging = s.paging := rfl
@[simp] theorem State.loadBiosSign_mem  : (s.loadBiosSign).mem = s.mem := rfl
@[simp] theorem State.loadBiosSign_stale  : (s.loadBiosSign).stale = s.stale := rfl
@[simp] theorem State.loadBiosSign_inputs  : (s.loadBiosSign).inputs = s.inputs := rfl
@[simp] theorem State.loadBiosSign_draws  : (s.loadBiosSign).draws = s.draws := rfl

/-! ### `State.tickTsc` -/

@[simp] theorem State.tickTsc_cfg  : (s.tickTsc).cfg = s.cfg := rfl
@[simp] theorem State.tickTsc_gpr  : (s.tickTsc).gpr = s.gpr := rfl
@[simp] theorem State.tickTsc_rip  : (s.tickTsc).rip = s.rip := rfl
@[simp] theorem State.tickTsc_nextRip  : (s.tickTsc).nextRip = s.nextRip := rfl
@[simp] theorem State.tickTsc_rflags  : (s.tickTsc).rflags = s.rflags := rfl
@[simp] theorem State.tickTsc_sys  : (s.tickTsc).sys = s.sys := rfl
@[simp] theorem State.tickTsc_zmm  : (s.tickTsc).zmm = s.zmm := rfl
@[simp] theorem State.tickTsc_k  : (s.tickTsc).k = s.k := rfl
@[simp] theorem State.tickTsc_msr  : (s.tickTsc).msr = s.msr := rfl
@[simp] theorem State.tickTsc_tsc  : (s.tickTsc).tsc = tscAdvance s.tsc s.anyNat := rfl
@[simp] theorem State.tickTsc_vmx  : (s.tickTsc).vmx = s.vmx := rfl
@[simp] theorem State.tickTsc_monitor  : (s.tickTsc).monitor = s.monitor := rfl
@[simp] theorem State.tickTsc_keyTable  : (s.tickTsc).keyTable = s.keyTable := rfl
@[simp] theorem State.tickTsc_keyTableLock  : (s.tickTsc).keyTableLock = s.keyTableLock := rfl
@[simp] theorem State.tickTsc_hfi  : (s.tickTsc).hfi = s.hfi := rfl
@[simp] theorem State.tickTsc_pt  : (s.tickTsc).pt = s.pt := rfl
@[simp] theorem State.tickTsc_paging  : (s.tickTsc).paging = s.paging := rfl
@[simp] theorem State.tickTsc_mem  : (s.tickTsc).mem = s.mem := rfl
@[simp] theorem State.tickTsc_stale  : (s.tickTsc).stale = s.stale := rfl
@[simp] theorem State.tickTsc_inputs  : (s.tickTsc).inputs = s.inputs := rfl
@[simp] theorem State.tickTsc_draws  : (s.tickTsc).draws = s.draws + 1 := rfl

/-! ### `State.wait` -/

@[simp] theorem State.wait_cfg  : (s.wait).cfg = s.cfg := rfl
@[simp] theorem State.wait_gpr  : (s.wait).gpr = s.gpr := rfl
@[simp] theorem State.wait_rip  : (s.wait).rip = s.rip := rfl
@[simp] theorem State.wait_nextRip  : (s.wait).nextRip = s.nextRip := rfl
@[simp] theorem State.wait_rflags  : (s.wait).rflags = s.rflags := rfl
@[simp] theorem State.wait_sys  : (s.wait).sys = s.sys := rfl
@[simp] theorem State.wait_zmm  : (s.wait).zmm = s.zmm := rfl
@[simp] theorem State.wait_k  : (s.wait).k = s.k := rfl
@[simp] theorem State.wait_msr  : (s.wait).msr = s.msr := rfl
@[simp] theorem State.wait_tsc  : (s.wait).tsc = tscAdvance s.tsc s.anyNat := rfl
@[simp] theorem State.wait_vmx  : (s.wait).vmx = s.vmx := rfl
@[simp] theorem State.wait_monitor  : (s.wait).monitor = s.monitor := rfl
@[simp] theorem State.wait_keyTable  : (s.wait).keyTable = s.keyTable := rfl
@[simp] theorem State.wait_keyTableLock  : (s.wait).keyTableLock = s.keyTableLock := rfl
@[simp] theorem State.wait_hfi  : (s.wait).hfi = s.hfi := rfl
@[simp] theorem State.wait_pt  : (s.wait).pt = s.pt := rfl
@[simp] theorem State.wait_paging  : (s.wait).paging = s.paging := rfl
@[simp] theorem State.wait_mem  : (s.wait).mem = s.mem := rfl
@[simp] theorem State.wait_stale  : (s.wait).stale = s.stale := rfl
@[simp] theorem State.wait_inputs  : (s.wait).inputs = s.inputs := rfl
@[simp] theorem State.wait_draws  : (s.wait).draws = s.draws + 1 := rfl

/-! ### `State.softwareRan` -/

@[simp] theorem State.softwareRan_cfg  : (s.softwareRan).cfg = s.cfg := rfl
@[simp] theorem State.softwareRan_gpr  : (s.softwareRan).gpr = s.gpr := rfl
@[simp] theorem State.softwareRan_rip  : (s.softwareRan).rip = s.rip := rfl
@[simp] theorem State.softwareRan_nextRip  : (s.softwareRan).nextRip = s.nextRip := rfl
@[simp] theorem State.softwareRan_rflags  : (s.softwareRan).rflags = s.rflags := rfl
@[simp] theorem State.softwareRan_sys  : (s.softwareRan).sys = s.sys := rfl
@[simp] theorem State.softwareRan_zmm  : (s.softwareRan).zmm = s.zmm := rfl
@[simp] theorem State.softwareRan_k  : (s.softwareRan).k = s.k := rfl
@[simp] theorem State.softwareRan_msr  : (s.softwareRan).msr = s.msr := rfl
@[simp] theorem State.softwareRan_tsc  : (s.softwareRan).tsc = s.tsc := rfl
@[simp] theorem State.softwareRan_vmx  : (s.softwareRan).vmx = { s.vmx with justEntered := false } := rfl
@[simp] theorem State.softwareRan_monitor  : (s.softwareRan).monitor = s.monitor := rfl
@[simp] theorem State.softwareRan_keyTable  : (s.softwareRan).keyTable = s.keyTable := rfl
@[simp] theorem State.softwareRan_keyTableLock  : (s.softwareRan).keyTableLock = s.keyTableLock := rfl
@[simp] theorem State.softwareRan_hfi  : (s.softwareRan).hfi = s.hfi := rfl
@[simp] theorem State.softwareRan_pt  : (s.softwareRan).pt = s.pt := rfl
@[simp] theorem State.softwareRan_paging  : (s.softwareRan).paging = s.paging := rfl
@[simp] theorem State.softwareRan_mem  : (s.softwareRan).mem = s.mem := rfl
@[simp] theorem State.softwareRan_stale  : (s.softwareRan).stale = s.stale := rfl
@[simp] theorem State.softwareRan_inputs  : (s.softwareRan).inputs = s.inputs := rfl
@[simp] theorem State.softwareRan_draws  : (s.softwareRan).draws = s.draws := rfl

/-! ### `State.arm` -/

@[simp] theorem State.arm_cfg (pa : Nat) : (s.arm pa).cfg = s.cfg := rfl
@[simp] theorem State.arm_gpr (pa : Nat) : (s.arm pa).gpr = s.gpr := rfl
@[simp] theorem State.arm_rip (pa : Nat) : (s.arm pa).rip = s.rip := rfl
@[simp] theorem State.arm_nextRip (pa : Nat) : (s.arm pa).nextRip = s.nextRip := rfl
@[simp] theorem State.arm_rflags (pa : Nat) : (s.arm pa).rflags = s.rflags := rfl
@[simp] theorem State.arm_sys (pa : Nat) : (s.arm pa).sys = s.sys := rfl
@[simp] theorem State.arm_zmm (pa : Nat) : (s.arm pa).zmm = s.zmm := rfl
@[simp] theorem State.arm_k (pa : Nat) : (s.arm pa).k = s.k := rfl
@[simp] theorem State.arm_msr (pa : Nat) : (s.arm pa).msr = s.msr := rfl
@[simp] theorem State.arm_tsc (pa : Nat) : (s.arm pa).tsc = s.tsc := rfl
@[simp] theorem State.arm_vmx (pa : Nat) : (s.arm pa).vmx = s.vmx := rfl
@[simp] theorem State.arm_monitor (pa : Nat) : (s.arm pa).monitor = if s.anyBool then some (monitorBlock s pa) else none := rfl
@[simp] theorem State.arm_keyTable (pa : Nat) : (s.arm pa).keyTable = s.keyTable := rfl
@[simp] theorem State.arm_keyTableLock (pa : Nat) : (s.arm pa).keyTableLock = s.keyTableLock := rfl
@[simp] theorem State.arm_hfi (pa : Nat) : (s.arm pa).hfi = s.hfi := rfl
@[simp] theorem State.arm_pt (pa : Nat) : (s.arm pa).pt = s.pt := rfl
@[simp] theorem State.arm_paging (pa : Nat) : (s.arm pa).paging = s.paging := rfl
@[simp] theorem State.arm_mem (pa : Nat) : (s.arm pa).mem = s.mem := rfl
@[simp] theorem State.arm_stale (pa : Nat) : (s.arm pa).stale = s.stale := rfl
@[simp] theorem State.arm_inputs (pa : Nat) : (s.arm pa).inputs = s.inputs := rfl
@[simp] theorem State.arm_draws (pa : Nat) : (s.arm pa).draws = s.draws + 1 := rfl

/-! ### `State.setGpr32`: the fields it leaves alone -/

@[simp] theorem State.setGpr32_cfg (r : GReg) (v : Word32) : (s.setGpr32 r v).cfg = s.cfg := by unfold State.setGpr32; split <;> rfl
@[simp] theorem State.setGpr32_rip (r : GReg) (v : Word32) : (s.setGpr32 r v).rip = s.rip := by unfold State.setGpr32; split <;> rfl
@[simp] theorem State.setGpr32_nextRip (r : GReg) (v : Word32) : (s.setGpr32 r v).nextRip = s.nextRip := by unfold State.setGpr32; split <;> rfl
@[simp] theorem State.setGpr32_rflags (r : GReg) (v : Word32) : (s.setGpr32 r v).rflags = s.rflags := by unfold State.setGpr32; split <;> rfl
@[simp] theorem State.setGpr32_sys (r : GReg) (v : Word32) : (s.setGpr32 r v).sys = s.sys := by unfold State.setGpr32; split <;> rfl
@[simp] theorem State.setGpr32_zmm (r : GReg) (v : Word32) : (s.setGpr32 r v).zmm = s.zmm := by unfold State.setGpr32; split <;> rfl
@[simp] theorem State.setGpr32_k (r : GReg) (v : Word32) : (s.setGpr32 r v).k = s.k := by unfold State.setGpr32; split <;> rfl
@[simp] theorem State.setGpr32_msr (r : GReg) (v : Word32) : (s.setGpr32 r v).msr = s.msr := by unfold State.setGpr32; split <;> rfl
@[simp] theorem State.setGpr32_tsc (r : GReg) (v : Word32) : (s.setGpr32 r v).tsc = s.tsc := by unfold State.setGpr32; split <;> rfl
@[simp] theorem State.setGpr32_vmx (r : GReg) (v : Word32) : (s.setGpr32 r v).vmx = s.vmx := by unfold State.setGpr32; split <;> rfl
@[simp] theorem State.setGpr32_monitor (r : GReg) (v : Word32) : (s.setGpr32 r v).monitor = s.monitor := by unfold State.setGpr32; split <;> rfl
@[simp] theorem State.setGpr32_keyTable (r : GReg) (v : Word32) : (s.setGpr32 r v).keyTable = s.keyTable := by unfold State.setGpr32; split <;> rfl
@[simp] theorem State.setGpr32_keyTableLock (r : GReg) (v : Word32) : (s.setGpr32 r v).keyTableLock = s.keyTableLock := by unfold State.setGpr32; split <;> rfl
@[simp] theorem State.setGpr32_hfi (r : GReg) (v : Word32) : (s.setGpr32 r v).hfi = s.hfi := by unfold State.setGpr32; split <;> rfl
@[simp] theorem State.setGpr32_pt (r : GReg) (v : Word32) : (s.setGpr32 r v).pt = s.pt := by unfold State.setGpr32; split <;> rfl
@[simp] theorem State.setGpr32_paging (r : GReg) (v : Word32) : (s.setGpr32 r v).paging = s.paging := by unfold State.setGpr32; split <;> rfl
@[simp] theorem State.setGpr32_mem (r : GReg) (v : Word32) : (s.setGpr32 r v).mem = s.mem := by unfold State.setGpr32; split <;> rfl
@[simp] theorem State.setGpr32_stale (r : GReg) (v : Word32) : (s.setGpr32 r v).stale = s.stale := by unfold State.setGpr32; split <;> rfl
@[simp] theorem State.setGpr32_inputs (r : GReg) (v : Word32) : (s.setGpr32 r v).inputs = s.inputs := by unfold State.setGpr32; split <;> rfl
@[simp] theorem State.setGpr32_draws (r : GReg) (v : Word32) : (s.setGpr32 r v).draws = s.draws := by unfold State.setGpr32; split <;> rfl

/-! ### `State.storeOwn`: the fields it leaves alone -/

@[simp] theorem State.storeOwn_cfg (c : List (Nat × Byte)) : (s.storeOwn c).cfg = s.cfg := by unfold State.storeOwn; dsimp only; split <;> rfl
@[simp] theorem State.storeOwn_gpr (c : List (Nat × Byte)) : (s.storeOwn c).gpr = s.gpr := by unfold State.storeOwn; dsimp only; split <;> rfl
@[simp] theorem State.storeOwn_rip (c : List (Nat × Byte)) : (s.storeOwn c).rip = s.rip := by unfold State.storeOwn; dsimp only; split <;> rfl
@[simp] theorem State.storeOwn_nextRip (c : List (Nat × Byte)) : (s.storeOwn c).nextRip = s.nextRip := by unfold State.storeOwn; dsimp only; split <;> rfl
@[simp] theorem State.storeOwn_rflags (c : List (Nat × Byte)) : (s.storeOwn c).rflags = s.rflags := by unfold State.storeOwn; dsimp only; split <;> rfl
@[simp] theorem State.storeOwn_sys (c : List (Nat × Byte)) : (s.storeOwn c).sys = s.sys := by unfold State.storeOwn; dsimp only; split <;> rfl
@[simp] theorem State.storeOwn_zmm (c : List (Nat × Byte)) : (s.storeOwn c).zmm = s.zmm := by unfold State.storeOwn; dsimp only; split <;> rfl
@[simp] theorem State.storeOwn_k (c : List (Nat × Byte)) : (s.storeOwn c).k = s.k := by unfold State.storeOwn; dsimp only; split <;> rfl
@[simp] theorem State.storeOwn_msr (c : List (Nat × Byte)) : (s.storeOwn c).msr = s.msr := by unfold State.storeOwn; dsimp only; split <;> rfl
@[simp] theorem State.storeOwn_tsc (c : List (Nat × Byte)) : (s.storeOwn c).tsc = s.tsc := by unfold State.storeOwn; dsimp only; split <;> rfl
@[simp] theorem State.storeOwn_vmx (c : List (Nat × Byte)) : (s.storeOwn c).vmx = s.vmx := by unfold State.storeOwn; dsimp only; split <;> rfl
@[simp] theorem State.storeOwn_keyTable (c : List (Nat × Byte)) : (s.storeOwn c).keyTable = s.keyTable := by unfold State.storeOwn; dsimp only; split <;> rfl
@[simp] theorem State.storeOwn_keyTableLock (c : List (Nat × Byte)) : (s.storeOwn c).keyTableLock = s.keyTableLock := by unfold State.storeOwn; dsimp only; split <;> rfl
@[simp] theorem State.storeOwn_hfi (c : List (Nat × Byte)) : (s.storeOwn c).hfi = s.hfi := by unfold State.storeOwn; dsimp only; split <;> rfl
@[simp] theorem State.storeOwn_pt (c : List (Nat × Byte)) : (s.storeOwn c).pt = s.pt := by unfold State.storeOwn; dsimp only; split <;> rfl
@[simp] theorem State.storeOwn_paging (c : List (Nat × Byte)) : (s.storeOwn c).paging = s.paging := by unfold State.storeOwn; dsimp only; split <;> rfl
@[simp] theorem State.storeOwn_inputs (c : List (Nat × Byte)) : (s.storeOwn c).inputs = s.inputs := by unfold State.storeOwn; dsimp only; split <;> rfl

/-! ### `State.storeByAgent`: the fields it leaves alone -/

@[simp] theorem State.storeByAgent_cfg (c : List (Nat × Byte)) : (s.storeByAgent c).cfg = s.cfg := by unfold State.storeByAgent; dsimp only; split <;> rfl
@[simp] theorem State.storeByAgent_gpr (c : List (Nat × Byte)) : (s.storeByAgent c).gpr = s.gpr := by unfold State.storeByAgent; dsimp only; split <;> rfl
@[simp] theorem State.storeByAgent_rip (c : List (Nat × Byte)) : (s.storeByAgent c).rip = s.rip := by unfold State.storeByAgent; dsimp only; split <;> rfl
@[simp] theorem State.storeByAgent_nextRip (c : List (Nat × Byte)) : (s.storeByAgent c).nextRip = s.nextRip := by unfold State.storeByAgent; dsimp only; split <;> rfl
@[simp] theorem State.storeByAgent_rflags (c : List (Nat × Byte)) : (s.storeByAgent c).rflags = s.rflags := by unfold State.storeByAgent; dsimp only; split <;> rfl
@[simp] theorem State.storeByAgent_sys (c : List (Nat × Byte)) : (s.storeByAgent c).sys = s.sys := by unfold State.storeByAgent; dsimp only; split <;> rfl
@[simp] theorem State.storeByAgent_zmm (c : List (Nat × Byte)) : (s.storeByAgent c).zmm = s.zmm := by unfold State.storeByAgent; dsimp only; split <;> rfl
@[simp] theorem State.storeByAgent_k (c : List (Nat × Byte)) : (s.storeByAgent c).k = s.k := by unfold State.storeByAgent; dsimp only; split <;> rfl
@[simp] theorem State.storeByAgent_msr (c : List (Nat × Byte)) : (s.storeByAgent c).msr = s.msr := by unfold State.storeByAgent; dsimp only; split <;> rfl
@[simp] theorem State.storeByAgent_tsc (c : List (Nat × Byte)) : (s.storeByAgent c).tsc = s.tsc := by unfold State.storeByAgent; dsimp only; split <;> rfl
@[simp] theorem State.storeByAgent_vmx (c : List (Nat × Byte)) : (s.storeByAgent c).vmx = s.vmx := by unfold State.storeByAgent; dsimp only; split <;> rfl
@[simp] theorem State.storeByAgent_keyTable (c : List (Nat × Byte)) : (s.storeByAgent c).keyTable = s.keyTable := by unfold State.storeByAgent; dsimp only; split <;> rfl
@[simp] theorem State.storeByAgent_keyTableLock (c : List (Nat × Byte)) : (s.storeByAgent c).keyTableLock = s.keyTableLock := by unfold State.storeByAgent; dsimp only; split <;> rfl
@[simp] theorem State.storeByAgent_hfi (c : List (Nat × Byte)) : (s.storeByAgent c).hfi = s.hfi := by unfold State.storeByAgent; dsimp only; split <;> rfl
@[simp] theorem State.storeByAgent_pt (c : List (Nat × Byte)) : (s.storeByAgent c).pt = s.pt := by unfold State.storeByAgent; dsimp only; split <;> rfl
@[simp] theorem State.storeByAgent_paging (c : List (Nat × Byte)) : (s.storeByAgent c).paging = s.paging := by unfold State.storeByAgent; dsimp only; split <;> rfl
@[simp] theorem State.storeByAgent_inputs (c : List (Nat × Byte)) : (s.storeByAgent c).inputs = s.inputs := by unfold State.storeByAgent; dsimp only; split <;> rfl
@[simp] theorem State.storeByAgent_draws (c : List (Nat × Byte)) : (s.storeByAgent c).draws = s.draws := by unfold State.storeByAgent; dsimp only; split <;> rfl

/-! ### `State.afterWait`: the fields it leaves alone -/

@[simp] theorem State.afterWait_cfg  : (s.afterWait).cfg = s.cfg := by unfold State.afterWait; split <;> rfl
@[simp] theorem State.afterWait_gpr  : (s.afterWait).gpr = s.gpr := by unfold State.afterWait; split <;> rfl
@[simp] theorem State.afterWait_rip  : (s.afterWait).rip = s.rip := by unfold State.afterWait; split <;> rfl
@[simp] theorem State.afterWait_nextRip  : (s.afterWait).nextRip = s.nextRip := by unfold State.afterWait; split <;> rfl
@[simp] theorem State.afterWait_rflags  : (s.afterWait).rflags = s.rflags := by unfold State.afterWait; split <;> rfl
@[simp] theorem State.afterWait_sys  : (s.afterWait).sys = s.sys := by unfold State.afterWait; split <;> rfl
@[simp] theorem State.afterWait_zmm  : (s.afterWait).zmm = s.zmm := by unfold State.afterWait; split <;> rfl
@[simp] theorem State.afterWait_k  : (s.afterWait).k = s.k := by unfold State.afterWait; split <;> rfl
@[simp] theorem State.afterWait_msr  : (s.afterWait).msr = s.msr := by unfold State.afterWait; split <;> rfl
@[simp] theorem State.afterWait_tsc  : (s.afterWait).tsc = s.tsc := by unfold State.afterWait; split <;> rfl
@[simp] theorem State.afterWait_vmx  : (s.afterWait).vmx = s.vmx := by unfold State.afterWait; split <;> rfl
@[simp] theorem State.afterWait_keyTable  : (s.afterWait).keyTable = s.keyTable := by unfold State.afterWait; split <;> rfl
@[simp] theorem State.afterWait_keyTableLock  : (s.afterWait).keyTableLock = s.keyTableLock := by unfold State.afterWait; split <;> rfl
@[simp] theorem State.afterWait_hfi  : (s.afterWait).hfi = s.hfi := by unfold State.afterWait; split <;> rfl
@[simp] theorem State.afterWait_pt  : (s.afterWait).pt = s.pt := by unfold State.afterWait; split <;> rfl
@[simp] theorem State.afterWait_paging  : (s.afterWait).paging = s.paging := by unfold State.afterWait; split <;> rfl
@[simp] theorem State.afterWait_mem  : (s.afterWait).mem = s.mem := by unfold State.afterWait; split <;> rfl
@[simp] theorem State.afterWait_stale  : (s.afterWait).stale = s.stale := by unfold State.afterWait; split <;> rfl
@[simp] theorem State.afterWait_inputs  : (s.afterWait).inputs = s.inputs := by unfold State.afterWait; split <;> rfl

/-! ### `State.waitArmed`: the fields it leaves alone -/

@[simp] theorem State.waitArmed_cfg  : (s.waitArmed).cfg = s.cfg := by unfold State.waitArmed; split <;> rfl
@[simp] theorem State.waitArmed_gpr  : (s.waitArmed).gpr = s.gpr := by unfold State.waitArmed; split <;> rfl
@[simp] theorem State.waitArmed_rip  : (s.waitArmed).rip = s.rip := by unfold State.waitArmed; split <;> rfl
@[simp] theorem State.waitArmed_nextRip  : (s.waitArmed).nextRip = s.nextRip := by unfold State.waitArmed; split <;> rfl
@[simp] theorem State.waitArmed_rflags  : (s.waitArmed).rflags = s.rflags := by unfold State.waitArmed; split <;> rfl
@[simp] theorem State.waitArmed_sys  : (s.waitArmed).sys = s.sys := by unfold State.waitArmed; split <;> rfl
@[simp] theorem State.waitArmed_zmm  : (s.waitArmed).zmm = s.zmm := by unfold State.waitArmed; split <;> rfl
@[simp] theorem State.waitArmed_k  : (s.waitArmed).k = s.k := by unfold State.waitArmed; split <;> rfl
@[simp] theorem State.waitArmed_msr  : (s.waitArmed).msr = s.msr := by unfold State.waitArmed; split <;> rfl
@[simp] theorem State.waitArmed_vmx  : (s.waitArmed).vmx = s.vmx := by unfold State.waitArmed; split <;> rfl
@[simp] theorem State.waitArmed_monitor  : (s.waitArmed).monitor = s.monitor := by unfold State.waitArmed; split <;> rfl
@[simp] theorem State.waitArmed_keyTable  : (s.waitArmed).keyTable = s.keyTable := by unfold State.waitArmed; split <;> rfl
@[simp] theorem State.waitArmed_keyTableLock  : (s.waitArmed).keyTableLock = s.keyTableLock := by unfold State.waitArmed; split <;> rfl
@[simp] theorem State.waitArmed_hfi  : (s.waitArmed).hfi = s.hfi := by unfold State.waitArmed; split <;> rfl
@[simp] theorem State.waitArmed_pt  : (s.waitArmed).pt = s.pt := by unfold State.waitArmed; split <;> rfl
@[simp] theorem State.waitArmed_paging  : (s.waitArmed).paging = s.paging := by unfold State.waitArmed; split <;> rfl
@[simp] theorem State.waitArmed_mem  : (s.waitArmed).mem = s.mem := by unfold State.waitArmed; split <;> rfl
@[simp] theorem State.waitArmed_stale  : (s.waitArmed).stale = s.stale := by unfold State.waitArmed; split <;> rfl
@[simp] theorem State.waitArmed_inputs  : (s.waitArmed).inputs = s.inputs := by unfold State.waitArmed; split <;> rfl

/-- UMWAIT without an armed monitor does not wait (45_waitpkg.md R385). -/
theorem State.waitArmed_of_none (h : s.monitor = none) : s.waitArmed = s := by simp [State.waitArmed, h]

/-- UMWAIT with one waits as TPAUSE does (R387, R392). -/
theorem State.waitArmed_of_some {b : Nat} (h : s.monitor = some b) : s.waitArmed = s.wait := by simp [State.waitArmed, h]

/-! ### `State.storeEarly`: the fields it leaves alone -/

@[simp] theorem State.storeEarly_cfg (pa : Nat) (bytes : List Byte) : (s.storeEarly pa bytes).cfg = s.cfg := by simp [State.storeEarly]
@[simp] theorem State.storeEarly_gpr (pa : Nat) (bytes : List Byte) : (s.storeEarly pa bytes).gpr = s.gpr := by simp [State.storeEarly]
@[simp] theorem State.storeEarly_rip (pa : Nat) (bytes : List Byte) : (s.storeEarly pa bytes).rip = s.rip := by simp [State.storeEarly]
@[simp] theorem State.storeEarly_nextRip (pa : Nat) (bytes : List Byte) : (s.storeEarly pa bytes).nextRip = s.nextRip := by simp [State.storeEarly]
@[simp] theorem State.storeEarly_rflags (pa : Nat) (bytes : List Byte) : (s.storeEarly pa bytes).rflags = s.rflags := by simp [State.storeEarly]
@[simp] theorem State.storeEarly_sys (pa : Nat) (bytes : List Byte) : (s.storeEarly pa bytes).sys = s.sys := by simp [State.storeEarly]
@[simp] theorem State.storeEarly_zmm (pa : Nat) (bytes : List Byte) : (s.storeEarly pa bytes).zmm = s.zmm := by simp [State.storeEarly]
@[simp] theorem State.storeEarly_k (pa : Nat) (bytes : List Byte) : (s.storeEarly pa bytes).k = s.k := by simp [State.storeEarly]
@[simp] theorem State.storeEarly_msr (pa : Nat) (bytes : List Byte) : (s.storeEarly pa bytes).msr = s.msr := by simp [State.storeEarly]
@[simp] theorem State.storeEarly_tsc (pa : Nat) (bytes : List Byte) : (s.storeEarly pa bytes).tsc = s.tsc := by simp [State.storeEarly]
@[simp] theorem State.storeEarly_vmx (pa : Nat) (bytes : List Byte) : (s.storeEarly pa bytes).vmx = s.vmx := by simp [State.storeEarly]
@[simp] theorem State.storeEarly_keyTable (pa : Nat) (bytes : List Byte) : (s.storeEarly pa bytes).keyTable = s.keyTable := by simp [State.storeEarly]
@[simp] theorem State.storeEarly_keyTableLock (pa : Nat) (bytes : List Byte) : (s.storeEarly pa bytes).keyTableLock = s.keyTableLock := by simp [State.storeEarly]
@[simp] theorem State.storeEarly_hfi (pa : Nat) (bytes : List Byte) : (s.storeEarly pa bytes).hfi = s.hfi := by simp [State.storeEarly]
@[simp] theorem State.storeEarly_pt (pa : Nat) (bytes : List Byte) : (s.storeEarly pa bytes).pt = s.pt := by simp [State.storeEarly]
@[simp] theorem State.storeEarly_paging (pa : Nat) (bytes : List Byte) : (s.storeEarly pa bytes).paging = s.paging := by simp [State.storeEarly]
@[simp] theorem State.storeEarly_inputs (pa : Nat) (bytes : List Byte) : (s.storeEarly pa bytes).inputs = s.inputs := by simp [State.storeEarly]

/-! ### `State.tickMonitor`: the fields it leaves alone -/

@[simp] theorem State.tickMonitor_cfg  : (s.tickMonitor).cfg = s.cfg := by unfold State.tickMonitor; split <;> rfl
@[simp] theorem State.tickMonitor_gpr  : (s.tickMonitor).gpr = s.gpr := by unfold State.tickMonitor; split <;> rfl
@[simp] theorem State.tickMonitor_rip  : (s.tickMonitor).rip = s.rip := by unfold State.tickMonitor; split <;> rfl
@[simp] theorem State.tickMonitor_nextRip  : (s.tickMonitor).nextRip = s.nextRip := by unfold State.tickMonitor; split <;> rfl
@[simp] theorem State.tickMonitor_rflags  : (s.tickMonitor).rflags = s.rflags := by unfold State.tickMonitor; split <;> rfl
@[simp] theorem State.tickMonitor_sys  : (s.tickMonitor).sys = s.sys := by unfold State.tickMonitor; split <;> rfl
@[simp] theorem State.tickMonitor_zmm  : (s.tickMonitor).zmm = s.zmm := by unfold State.tickMonitor; split <;> rfl
@[simp] theorem State.tickMonitor_k  : (s.tickMonitor).k = s.k := by unfold State.tickMonitor; split <;> rfl
@[simp] theorem State.tickMonitor_msr  : (s.tickMonitor).msr = s.msr := by unfold State.tickMonitor; split <;> rfl
@[simp] theorem State.tickMonitor_tsc  : (s.tickMonitor).tsc = s.tsc := by unfold State.tickMonitor; split <;> rfl
@[simp] theorem State.tickMonitor_vmx  : (s.tickMonitor).vmx = s.vmx := by unfold State.tickMonitor; split <;> rfl
@[simp] theorem State.tickMonitor_keyTable  : (s.tickMonitor).keyTable = s.keyTable := by unfold State.tickMonitor; split <;> rfl
@[simp] theorem State.tickMonitor_keyTableLock  : (s.tickMonitor).keyTableLock = s.keyTableLock := by unfold State.tickMonitor; split <;> rfl
@[simp] theorem State.tickMonitor_hfi  : (s.tickMonitor).hfi = s.hfi := by unfold State.tickMonitor; split <;> rfl
@[simp] theorem State.tickMonitor_pt  : (s.tickMonitor).pt = s.pt := by unfold State.tickMonitor; split <;> rfl
@[simp] theorem State.tickMonitor_paging  : (s.tickMonitor).paging = s.paging := by unfold State.tickMonitor; split <;> rfl
@[simp] theorem State.tickMonitor_mem  : (s.tickMonitor).mem = s.mem := by unfold State.tickMonitor; split <;> rfl
@[simp] theorem State.tickMonitor_stale  : (s.tickMonitor).stale = s.stale := by unfold State.tickMonitor; split <;> rfl
@[simp] theorem State.tickMonitor_inputs  : (s.tickMonitor).inputs = s.inputs := by unfold State.tickMonitor; split <;> rfl

/-! ### `State.setCpuid`: the fields it leaves alone -/

@[simp] theorem State.setCpuid_cfg (o : CpuidOut) : (s.setCpuid o).cfg = s.cfg := rfl
@[simp] theorem State.setCpuid_rip (o : CpuidOut) : (s.setCpuid o).rip = s.rip := rfl
@[simp] theorem State.setCpuid_nextRip (o : CpuidOut) : (s.setCpuid o).nextRip = s.nextRip := rfl
@[simp] theorem State.setCpuid_rflags (o : CpuidOut) : (s.setCpuid o).rflags = s.rflags := rfl
@[simp] theorem State.setCpuid_sys (o : CpuidOut) : (s.setCpuid o).sys = s.sys := rfl
@[simp] theorem State.setCpuid_zmm (o : CpuidOut) : (s.setCpuid o).zmm = s.zmm := rfl
@[simp] theorem State.setCpuid_k (o : CpuidOut) : (s.setCpuid o).k = s.k := rfl
@[simp] theorem State.setCpuid_msr (o : CpuidOut) : (s.setCpuid o).msr = s.msr := rfl
@[simp] theorem State.setCpuid_tsc (o : CpuidOut) : (s.setCpuid o).tsc = s.tsc := rfl
@[simp] theorem State.setCpuid_vmx (o : CpuidOut) : (s.setCpuid o).vmx = s.vmx := rfl
@[simp] theorem State.setCpuid_monitor (o : CpuidOut) : (s.setCpuid o).monitor = s.monitor := rfl
@[simp] theorem State.setCpuid_keyTable (o : CpuidOut) : (s.setCpuid o).keyTable = s.keyTable := rfl
@[simp] theorem State.setCpuid_keyTableLock (o : CpuidOut) : (s.setCpuid o).keyTableLock = s.keyTableLock := rfl
@[simp] theorem State.setCpuid_hfi (o : CpuidOut) : (s.setCpuid o).hfi = s.hfi := rfl
@[simp] theorem State.setCpuid_pt (o : CpuidOut) : (s.setCpuid o).pt = s.pt := rfl
@[simp] theorem State.setCpuid_paging (o : CpuidOut) : (s.setCpuid o).paging = s.paging := rfl
@[simp] theorem State.setCpuid_mem (o : CpuidOut) : (s.setCpuid o).mem = s.mem := rfl
@[simp] theorem State.setCpuid_stale (o : CpuidOut) : (s.setCpuid o).stale = s.stale := rfl
@[simp] theorem State.setCpuid_inputs (o : CpuidOut) : (s.setCpuid o).inputs = s.inputs := rfl
@[simp] theorem State.setCpuid_draws (o : CpuidOut) : (s.setCpuid o).draws = s.draws := rfl

/-! ### `State.mayTouch`: the fields it leaves alone -/

@[simp] theorem State.mayTouch_cfg (la : Word64) : (s.mayTouch la).cfg = s.cfg := by unfold State.mayTouch; split <;> rfl
@[simp] theorem State.mayTouch_gpr (la : Word64) : (s.mayTouch la).gpr = s.gpr := by unfold State.mayTouch; split <;> rfl
@[simp] theorem State.mayTouch_rip (la : Word64) : (s.mayTouch la).rip = s.rip := by unfold State.mayTouch; split <;> rfl
@[simp] theorem State.mayTouch_nextRip (la : Word64) : (s.mayTouch la).nextRip = s.nextRip := by unfold State.mayTouch; split <;> rfl
@[simp] theorem State.mayTouch_rflags (la : Word64) : (s.mayTouch la).rflags = s.rflags := by unfold State.mayTouch; split <;> rfl
@[simp] theorem State.mayTouch_sys (la : Word64) : (s.mayTouch la).sys = s.sys := by unfold State.mayTouch; split <;> rfl
@[simp] theorem State.mayTouch_zmm (la : Word64) : (s.mayTouch la).zmm = s.zmm := by unfold State.mayTouch; split <;> rfl
@[simp] theorem State.mayTouch_k (la : Word64) : (s.mayTouch la).k = s.k := by unfold State.mayTouch; split <;> rfl
@[simp] theorem State.mayTouch_msr (la : Word64) : (s.mayTouch la).msr = s.msr := by unfold State.mayTouch; split <;> rfl
@[simp] theorem State.mayTouch_tsc (la : Word64) : (s.mayTouch la).tsc = s.tsc := by unfold State.mayTouch; split <;> rfl
@[simp] theorem State.mayTouch_vmx (la : Word64) : (s.mayTouch la).vmx = s.vmx := by unfold State.mayTouch; split <;> rfl
@[simp] theorem State.mayTouch_monitor (la : Word64) : (s.mayTouch la).monitor = s.monitor := by unfold State.mayTouch; split <;> rfl
@[simp] theorem State.mayTouch_keyTable (la : Word64) : (s.mayTouch la).keyTable = s.keyTable := by unfold State.mayTouch; split <;> rfl
@[simp] theorem State.mayTouch_keyTableLock (la : Word64) : (s.mayTouch la).keyTableLock = s.keyTableLock := by unfold State.mayTouch; split <;> rfl
@[simp] theorem State.mayTouch_hfi (la : Word64) : (s.mayTouch la).hfi = s.hfi := by unfold State.mayTouch; split <;> rfl
@[simp] theorem State.mayTouch_pt (la : Word64) : (s.mayTouch la).pt = s.pt := by unfold State.mayTouch; split <;> rfl
@[simp] theorem State.mayTouch_mem (la : Word64) : (s.mayTouch la).mem = s.mem := by unfold State.mayTouch; split <;> rfl
@[simp] theorem State.mayTouch_stale (la : Word64) : (s.mayTouch la).stale = s.stale := by unfold State.mayTouch; split <;> rfl
@[simp] theorem State.mayTouch_inputs (la : Word64) : (s.mayTouch la).inputs = s.inputs := by unfold State.mayTouch; split <;> rfl

/-! ### `State.hfiBegun`: the fields it leaves alone -/

@[simp] theorem State.hfiBegun_cfg  : (s.hfiBegun).cfg = s.cfg := by unfold State.hfiBegun; split <;> rfl
@[simp] theorem State.hfiBegun_gpr  : (s.hfiBegun).gpr = s.gpr := by unfold State.hfiBegun; split <;> rfl
@[simp] theorem State.hfiBegun_rip  : (s.hfiBegun).rip = s.rip := by unfold State.hfiBegun; split <;> rfl
@[simp] theorem State.hfiBegun_nextRip  : (s.hfiBegun).nextRip = s.nextRip := by unfold State.hfiBegun; split <;> rfl
@[simp] theorem State.hfiBegun_rflags  : (s.hfiBegun).rflags = s.rflags := by unfold State.hfiBegun; split <;> rfl
@[simp] theorem State.hfiBegun_sys  : (s.hfiBegun).sys = s.sys := by unfold State.hfiBegun; split <;> rfl
@[simp] theorem State.hfiBegun_zmm  : (s.hfiBegun).zmm = s.zmm := by unfold State.hfiBegun; split <;> rfl
@[simp] theorem State.hfiBegun_k  : (s.hfiBegun).k = s.k := by unfold State.hfiBegun; split <;> rfl
@[simp] theorem State.hfiBegun_msr  : (s.hfiBegun).msr = s.msr := by unfold State.hfiBegun; split <;> rfl
@[simp] theorem State.hfiBegun_tsc  : (s.hfiBegun).tsc = s.tsc := by unfold State.hfiBegun; split <;> rfl
@[simp] theorem State.hfiBegun_vmx  : (s.hfiBegun).vmx = s.vmx := by unfold State.hfiBegun; split <;> rfl
@[simp] theorem State.hfiBegun_monitor  : (s.hfiBegun).monitor = s.monitor := by unfold State.hfiBegun; split <;> rfl
@[simp] theorem State.hfiBegun_keyTable  : (s.hfiBegun).keyTable = s.keyTable := by unfold State.hfiBegun; split <;> rfl
@[simp] theorem State.hfiBegun_keyTableLock  : (s.hfiBegun).keyTableLock = s.keyTableLock := by unfold State.hfiBegun; split <;> rfl
@[simp] theorem State.hfiBegun_pt  : (s.hfiBegun).pt = s.pt := by unfold State.hfiBegun; split <;> rfl
@[simp] theorem State.hfiBegun_paging  : (s.hfiBegun).paging = s.paging := by unfold State.hfiBegun; split <;> rfl
@[simp] theorem State.hfiBegun_mem  : (s.hfiBegun).mem = s.mem := by unfold State.hfiBegun; split <;> rfl
@[simp] theorem State.hfiBegun_stale  : (s.hfiBegun).stale = s.stale := by unfold State.hfiBegun; split <;> rfl
@[simp] theorem State.hfiBegun_inputs  : (s.hfiBegun).inputs = s.inputs := by unfold State.hfiBegun; split <;> rfl
@[simp] theorem State.hfiBegun_draws  : (s.hfiBegun).draws = s.draws := by unfold State.hfiBegun; split <;> rfl

/-! ### `State.setHfiConfig`: the fields it leaves alone -/

@[simp] theorem State.setHfiConfig_cfg (v : Word64) (b : Bool) : (s.setHfiConfig v b).cfg = s.cfg := by unfold State.setHfiConfig State.hfiBegun; dsimp only; split <;> [split <;> rfl; rfl]
@[simp] theorem State.setHfiConfig_gpr (v : Word64) (b : Bool) : (s.setHfiConfig v b).gpr = s.gpr := by unfold State.setHfiConfig State.hfiBegun; dsimp only; split <;> [split <;> rfl; rfl]
@[simp] theorem State.setHfiConfig_rip (v : Word64) (b : Bool) : (s.setHfiConfig v b).rip = s.rip := by unfold State.setHfiConfig State.hfiBegun; dsimp only; split <;> [split <;> rfl; rfl]
@[simp] theorem State.setHfiConfig_nextRip (v : Word64) (b : Bool) : (s.setHfiConfig v b).nextRip = s.nextRip := by unfold State.setHfiConfig State.hfiBegun; dsimp only; split <;> [split <;> rfl; rfl]
@[simp] theorem State.setHfiConfig_rflags (v : Word64) (b : Bool) : (s.setHfiConfig v b).rflags = s.rflags := by unfold State.setHfiConfig State.hfiBegun; dsimp only; split <;> [split <;> rfl; rfl]
@[simp] theorem State.setHfiConfig_sys (v : Word64) (b : Bool) : (s.setHfiConfig v b).sys = s.sys := by unfold State.setHfiConfig State.hfiBegun; dsimp only; split <;> [split <;> rfl; rfl]
@[simp] theorem State.setHfiConfig_zmm (v : Word64) (b : Bool) : (s.setHfiConfig v b).zmm = s.zmm := by unfold State.setHfiConfig State.hfiBegun; dsimp only; split <;> [split <;> rfl; rfl]
@[simp] theorem State.setHfiConfig_k (v : Word64) (b : Bool) : (s.setHfiConfig v b).k = s.k := by unfold State.setHfiConfig State.hfiBegun; dsimp only; split <;> [split <;> rfl; rfl]
@[simp] theorem State.setHfiConfig_tsc (v : Word64) (b : Bool) : (s.setHfiConfig v b).tsc = s.tsc := by unfold State.setHfiConfig State.hfiBegun; dsimp only; split <;> [split <;> rfl; rfl]
@[simp] theorem State.setHfiConfig_vmx (v : Word64) (b : Bool) : (s.setHfiConfig v b).vmx = s.vmx := by unfold State.setHfiConfig State.hfiBegun; dsimp only; split <;> [split <;> rfl; rfl]
@[simp] theorem State.setHfiConfig_monitor (v : Word64) (b : Bool) : (s.setHfiConfig v b).monitor = s.monitor := by unfold State.setHfiConfig State.hfiBegun; dsimp only; split <;> [split <;> rfl; rfl]
@[simp] theorem State.setHfiConfig_keyTable (v : Word64) (b : Bool) : (s.setHfiConfig v b).keyTable = s.keyTable := by unfold State.setHfiConfig State.hfiBegun; dsimp only; split <;> [split <;> rfl; rfl]
@[simp] theorem State.setHfiConfig_keyTableLock (v : Word64) (b : Bool) : (s.setHfiConfig v b).keyTableLock = s.keyTableLock := by unfold State.setHfiConfig State.hfiBegun; dsimp only; split <;> [split <;> rfl; rfl]
@[simp] theorem State.setHfiConfig_pt (v : Word64) (b : Bool) : (s.setHfiConfig v b).pt = s.pt := by unfold State.setHfiConfig State.hfiBegun; dsimp only; split <;> [split <;> rfl; rfl]
@[simp] theorem State.setHfiConfig_paging (v : Word64) (b : Bool) : (s.setHfiConfig v b).paging = s.paging := by unfold State.setHfiConfig State.hfiBegun; dsimp only; split <;> [split <;> rfl; rfl]
@[simp] theorem State.setHfiConfig_mem (v : Word64) (b : Bool) : (s.setHfiConfig v b).mem = s.mem := by unfold State.setHfiConfig State.hfiBegun; dsimp only; split <;> [split <;> rfl; rfl]
@[simp] theorem State.setHfiConfig_stale (v : Word64) (b : Bool) : (s.setHfiConfig v b).stale = s.stale := by unfold State.setHfiConfig State.hfiBegun; dsimp only; split <;> [split <;> rfl; rfl]
@[simp] theorem State.setHfiConfig_inputs (v : Word64) (b : Bool) : (s.setHfiConfig v b).inputs = s.inputs := by unfold State.setHfiConfig State.hfiBegun; dsimp only; split <;> [split <;> rfl; rfl]

/-! ### `State.setHfiPtr`: the fields it leaves alone -/

@[simp] theorem State.setHfiPtr_cfg (v : Word64) : (s.setHfiPtr v).cfg = s.cfg := by unfold State.setHfiPtr State.hfiBegun; dsimp only; split <;> split <;> rfl
@[simp] theorem State.setHfiPtr_gpr (v : Word64) : (s.setHfiPtr v).gpr = s.gpr := by unfold State.setHfiPtr State.hfiBegun; dsimp only; split <;> split <;> rfl
@[simp] theorem State.setHfiPtr_rip (v : Word64) : (s.setHfiPtr v).rip = s.rip := by unfold State.setHfiPtr State.hfiBegun; dsimp only; split <;> split <;> rfl
@[simp] theorem State.setHfiPtr_nextRip (v : Word64) : (s.setHfiPtr v).nextRip = s.nextRip := by unfold State.setHfiPtr State.hfiBegun; dsimp only; split <;> split <;> rfl
@[simp] theorem State.setHfiPtr_rflags (v : Word64) : (s.setHfiPtr v).rflags = s.rflags := by unfold State.setHfiPtr State.hfiBegun; dsimp only; split <;> split <;> rfl
@[simp] theorem State.setHfiPtr_sys (v : Word64) : (s.setHfiPtr v).sys = s.sys := by unfold State.setHfiPtr State.hfiBegun; dsimp only; split <;> split <;> rfl
@[simp] theorem State.setHfiPtr_zmm (v : Word64) : (s.setHfiPtr v).zmm = s.zmm := by unfold State.setHfiPtr State.hfiBegun; dsimp only; split <;> split <;> rfl
@[simp] theorem State.setHfiPtr_k (v : Word64) : (s.setHfiPtr v).k = s.k := by unfold State.setHfiPtr State.hfiBegun; dsimp only; split <;> split <;> rfl
@[simp] theorem State.setHfiPtr_tsc (v : Word64) : (s.setHfiPtr v).tsc = s.tsc := by unfold State.setHfiPtr State.hfiBegun; dsimp only; split <;> split <;> rfl
@[simp] theorem State.setHfiPtr_vmx (v : Word64) : (s.setHfiPtr v).vmx = s.vmx := by unfold State.setHfiPtr State.hfiBegun; dsimp only; split <;> split <;> rfl
@[simp] theorem State.setHfiPtr_monitor (v : Word64) : (s.setHfiPtr v).monitor = s.monitor := by unfold State.setHfiPtr State.hfiBegun; dsimp only; split <;> split <;> rfl
@[simp] theorem State.setHfiPtr_keyTable (v : Word64) : (s.setHfiPtr v).keyTable = s.keyTable := by unfold State.setHfiPtr State.hfiBegun; dsimp only; split <;> split <;> rfl
@[simp] theorem State.setHfiPtr_keyTableLock (v : Word64) : (s.setHfiPtr v).keyTableLock = s.keyTableLock := by unfold State.setHfiPtr State.hfiBegun; dsimp only; split <;> split <;> rfl
@[simp] theorem State.setHfiPtr_pt (v : Word64) : (s.setHfiPtr v).pt = s.pt := by unfold State.setHfiPtr State.hfiBegun; dsimp only; split <;> split <;> rfl
@[simp] theorem State.setHfiPtr_paging (v : Word64) : (s.setHfiPtr v).paging = s.paging := by unfold State.setHfiPtr State.hfiBegun; dsimp only; split <;> split <;> rfl
@[simp] theorem State.setHfiPtr_mem (v : Word64) : (s.setHfiPtr v).mem = s.mem := by unfold State.setHfiPtr State.hfiBegun; dsimp only; split <;> split <;> rfl
@[simp] theorem State.setHfiPtr_stale (v : Word64) : (s.setHfiPtr v).stale = s.stale := by unfold State.setHfiPtr State.hfiBegun; dsimp only; split <;> split <;> rfl
@[simp] theorem State.setHfiPtr_inputs (v : Word64) : (s.setHfiPtr v).inputs = s.inputs := by unfold State.setHfiPtr State.hfiBegun; dsimp only; split <;> split <;> rfl
@[simp] theorem State.setHfiPtr_draws (v : Word64) : (s.setHfiPtr v).draws = s.draws := by unfold State.setHfiPtr State.hfiBegun; dsimp only; split <;> split <;> rfl

/-! ### `State.setRtit`: the fields it leaves alone -/

@[simp] theorem State.setRtit_cfg (v : Word64) : (s.setRtit v).cfg = s.cfg := rfl
@[simp] theorem State.setRtit_gpr (v : Word64) : (s.setRtit v).gpr = s.gpr := rfl
@[simp] theorem State.setRtit_rip (v : Word64) : (s.setRtit v).rip = s.rip := rfl
@[simp] theorem State.setRtit_nextRip (v : Word64) : (s.setRtit v).nextRip = s.nextRip := rfl
@[simp] theorem State.setRtit_rflags (v : Word64) : (s.setRtit v).rflags = s.rflags := rfl
@[simp] theorem State.setRtit_sys (v : Word64) : (s.setRtit v).sys = s.sys := rfl
@[simp] theorem State.setRtit_zmm (v : Word64) : (s.setRtit v).zmm = s.zmm := rfl
@[simp] theorem State.setRtit_k (v : Word64) : (s.setRtit v).k = s.k := rfl
@[simp] theorem State.setRtit_tsc (v : Word64) : (s.setRtit v).tsc = s.tsc := rfl
@[simp] theorem State.setRtit_vmx (v : Word64) : (s.setRtit v).vmx = s.vmx := rfl
@[simp] theorem State.setRtit_monitor (v : Word64) : (s.setRtit v).monitor = s.monitor := rfl
@[simp] theorem State.setRtit_keyTable (v : Word64) : (s.setRtit v).keyTable = s.keyTable := rfl
@[simp] theorem State.setRtit_keyTableLock (v : Word64) : (s.setRtit v).keyTableLock = s.keyTableLock := rfl
@[simp] theorem State.setRtit_hfi (v : Word64) : (s.setRtit v).hfi = s.hfi := rfl
@[simp] theorem State.setRtit_paging (v : Word64) : (s.setRtit v).paging = s.paging := rfl
@[simp] theorem State.setRtit_mem (v : Word64) : (s.setRtit v).mem = s.mem := rfl
@[simp] theorem State.setRtit_stale (v : Word64) : (s.setRtit v).stale = s.stale := rfl
@[simp] theorem State.setRtit_inputs (v : Word64) : (s.setRtit v).inputs = s.inputs := rfl
@[simp] theorem State.setRtit_draws (v : Word64) : (s.setRtit v).draws = s.draws := rfl

/-! ### `State.loadGuest`: the fields it leaves alone -/

@[simp] theorem State.loadGuest_cfg  : (s.loadGuest).cfg = s.cfg := by unfold State.loadGuest; dsimp only; split <;> rfl
@[simp] theorem State.loadGuest_gpr  : (s.loadGuest).gpr = s.gpr := by unfold State.loadGuest; dsimp only; split <;> rfl
@[simp] theorem State.loadGuest_nextRip  : (s.loadGuest).nextRip = s.nextRip := by unfold State.loadGuest; dsimp only; split <;> rfl
@[simp] theorem State.loadGuest_rflags  : (s.loadGuest).rflags = s.rflags := by unfold State.loadGuest; dsimp only; split <;> rfl
@[simp] theorem State.loadGuest_sys  : (s.loadGuest).sys = s.sys := by unfold State.loadGuest; dsimp only; split <;> rfl
@[simp] theorem State.loadGuest_zmm  : (s.loadGuest).zmm = s.zmm := by unfold State.loadGuest; dsimp only; split <;> rfl
@[simp] theorem State.loadGuest_k  : (s.loadGuest).k = s.k := by unfold State.loadGuest; dsimp only; split <;> rfl
@[simp] theorem State.loadGuest_tsc  : (s.loadGuest).tsc = s.tsc := by unfold State.loadGuest; dsimp only; split <;> rfl
@[simp] theorem State.loadGuest_vmx  : (s.loadGuest).vmx = s.vmx := by unfold State.loadGuest; dsimp only; split <;> rfl
@[simp] theorem State.loadGuest_monitor  : (s.loadGuest).monitor = s.monitor := by unfold State.loadGuest; dsimp only; split <;> rfl
@[simp] theorem State.loadGuest_keyTable  : (s.loadGuest).keyTable = s.keyTable := by unfold State.loadGuest; dsimp only; split <;> rfl
@[simp] theorem State.loadGuest_keyTableLock  : (s.loadGuest).keyTableLock = s.keyTableLock := by unfold State.loadGuest; dsimp only; split <;> rfl
@[simp] theorem State.loadGuest_hfi  : (s.loadGuest).hfi = s.hfi := by unfold State.loadGuest; dsimp only; split <;> rfl
@[simp] theorem State.loadGuest_paging  : (s.loadGuest).paging = s.paging := by unfold State.loadGuest; dsimp only; split <;> rfl
@[simp] theorem State.loadGuest_mem  : (s.loadGuest).mem = s.mem := by unfold State.loadGuest; dsimp only; split <;> rfl
@[simp] theorem State.loadGuest_stale  : (s.loadGuest).stale = s.stale := by unfold State.loadGuest; dsimp only; split <;> rfl
@[simp] theorem State.loadGuest_inputs  : (s.loadGuest).inputs = s.inputs := by unfold State.loadGuest; dsimp only; split <;> rfl
@[simp] theorem State.loadGuest_draws  : (s.loadGuest).draws = s.draws := by unfold State.loadGuest; dsimp only; split <;> rfl

/-! ### Registers after a write -/

/-- A processor with AVX512F has all 512 bits (00_scope.md R8). -/
theorem maxVl_avx512f {c : Cfg} (h : c.features.avx512f = true) : maxVl c = 512 := by simp [maxVl, h]

theorem maxVl_le (c : Cfg) : 128 ≤ maxVl c ∧ maxVl c ≤ 512 := by unfold maxVl; split <;> [simp; (split <;> simp)]

theorem getLsbD_vecCut (c : Cfg) (v : Vec) (i : Nat) :
    (vecCut c v).getLsbD i = (decide (i < maxVl c) && v.getLsbD i) := by
  have h := maxVl_le c
  by_cases hi : i < 512
  · have e : decide (512 - maxVl c + i < 512) = decide (i < maxVl c) := by rw [decide_eq_decide]; omega
    rw [vecCut, BitVec.getLsbD_and, BitVec.getLsbD_ushiftRight, BitVec.getLsbD_allOnes, e, Bool.and_comm]
  · have e : v.getLsbD i = false := BitVec.getLsbD_of_ge _ _ (by omega)
    have e' : (vecCut c v).getLsbD i = false := BitVec.getLsbD_of_ge _ _ (by omega)
    simp [e, e']

/-- A value within `MAXVL` bits is not cut. -/
theorem vecCut_of_lt {c : Cfg} {v : Vec} (h : v.toNat < 2 ^ maxVl c) : vecCut c v = v := by
  apply BitVec.eq_of_getLsbD_eq
  intro i _
  rw [getLsbD_vecCut]
  by_cases hi : i < maxVl c
  · simp [hi]
  · have : v.getLsbD i = false := by
      rw [BitVec.getLsbD, Nat.testBit_lt_two_pow]
      exact Nat.lt_of_lt_of_le h (Nat.pow_le_pow_right (by omega) (by omega))
    simp [hi, this]

/-- With AVX512F no value is cut. -/
theorem vecCut_avx512f {c : Cfg} (h : c.features.avx512f = true) (v : Vec) : vecCut c v = v :=
  BitVec.eq_of_getLsbD_eq fun i hi => by rw [getLsbD_vecCut, maxVl_avx512f h, decide_eq_true hi, Bool.true_and]

@[simp] theorem vecCut_vecCut (c : Cfg) (v : Vec) : vecCut c (vecCut c v) = vecCut c v := by
  apply BitVec.eq_of_getLsbD_eq
  intro i _
  simp only [getLsbD_vecCut]
  cases decide (i < maxVl c) <;> simp

@[simp] theorem State.vecCut_vec (r : VReg) : vecCut s.cfg (s.vec r) = s.vec r := vecCut_vecCut _ _

theorem State.vec_setVec (r x : VReg) (v : Vec) :
    (s.setVec r v).vec x = if x = r then vecCut s.cfg v else s.vec x := by
  unfold State.vec State.setVec
  simp only [Vector.getElem_set]
  by_cases h : x = r
  · simp [h]
  · have : r.toNat ≠ x.toNat := fun e => h (BitVec.eq_of_toNat_eq e.symm)
    simp [h, this]

@[simp] theorem State.vec_setVec_same (r : VReg) (v : Vec) : (s.setVec r v).vec r = vecCut s.cfg v := by
  simp [State.vec_setVec]

theorem State.gpr64_setGpr64 (r x : GReg) (v : Word64) :
    (s.setGpr64 r v).gpr64 x = if x = r then v else s.gpr64 x := by
  unfold State.gpr64 State.setGpr64
  simp only [Vector.getElem_set]
  by_cases h : x = r
  · simp [h]
  · have : r.toNat ≠ x.toNat := fun e => h (BitVec.eq_of_toNat_eq e.symm)
    simp [h, this]

@[simp] theorem State.gpr64_setGpr64_same (r : GReg) (v : Word64) : (s.setGpr64 r v).gpr64 r = v := by
  simp [State.gpr64_setGpr64]

theorem State.opmask_setOpmask (r x : KReg) (v : Word64) :
    (s.setOpmask r v).opmask x = if x = r then v else s.opmask x := by
  unfold State.opmask State.setOpmask
  simp only [Vector.getElem_set]
  by_cases h : x = r
  · simp [h]
  · have : r.toNat ≠ x.toNat := fun e => h (BitVec.eq_of_toNat_eq e.symm)
    simp [h, this]

@[simp] theorem State.opmask_setOpmask_same (r : KReg) (v : Word64) : (s.setOpmask r v).opmask r = v := by
  simp [State.opmask_setOpmask]

/-- A 32-bit result in 64-bit mode (10_state.md R31). -/
theorem State.setGpr32_of_is64 (r : GReg) (v : Word32) (h : s.is64 = true) :
    s.setGpr32 r v = s.setGpr64 r (v.setWidth 64) := by simp [State.setGpr32, h]

@[simp] theorem State.vec_setGpr64 (r : GReg) (v : Word64) (x : VReg) : (s.setGpr64 r v).vec x = s.vec x := rfl
@[simp] theorem State.opmask_setGpr64 (r : GReg) (v : Word64) (x : KReg) : (s.setGpr64 r v).opmask x = s.opmask x := rfl
@[simp] theorem State.byte_setGpr64 (r : GReg) (v : Word64) (x : Nat) : (s.setGpr64 r v).byte x = s.byte x := rfl
@[simp] theorem State.gpr64_setVec (r : VReg) (v : Vec) (x : GReg) : (s.setVec r v).gpr64 x = s.gpr64 x := rfl
@[simp] theorem State.opmask_setVec (r : VReg) (v : Vec) (x : KReg) : (s.setVec r v).opmask x = s.opmask x := rfl
@[simp] theorem State.byte_setVec (r : VReg) (v : Vec) (x : Nat) : (s.setVec r v).byte x = s.byte x := rfl
@[simp] theorem State.gpr64_setOpmask (r : KReg) (v : Word64) (x : GReg) : (s.setOpmask r v).gpr64 x = s.gpr64 x := rfl
@[simp] theorem State.vec_setOpmask (r : KReg) (v : Word64) (x : VReg) : (s.setOpmask r v).vec x = s.vec x := rfl
@[simp] theorem State.byte_setOpmask (r : KReg) (v : Word64) (x : Nat) : (s.setOpmask r v).byte x = s.byte x := rfl
@[simp] theorem State.gpr64_setRflags (v : Word64) (x : GReg) : (s.setRflags v).gpr64 x = s.gpr64 x := rfl
@[simp] theorem State.vec_setRflags (v : Word64) (x : VReg) : (s.setRflags v).vec x = s.vec x := rfl
@[simp] theorem State.opmask_setRflags (v : Word64) (x : KReg) : (s.setRflags v).opmask x = s.opmask x := rfl
@[simp] theorem State.byte_setRflags (v : Word64) (x : Nat) : (s.setRflags v).byte x = s.byte x := rfl
@[simp] theorem State.gpr64_complete  (x : GReg) : (s.complete).gpr64 x = s.gpr64 x := rfl
@[simp] theorem State.vec_complete  (x : VReg) : (s.complete).vec x = s.vec x := rfl
@[simp] theorem State.opmask_complete  (x : KReg) : (s.complete).opmask x = s.opmask x := rfl
@[simp] theorem State.byte_complete  (x : Nat) : (s.complete).byte x = s.byte x := rfl
@[simp] theorem State.gpr64_serialize  (x : GReg) : (s.serialize).gpr64 x = s.gpr64 x := rfl
@[simp] theorem State.vec_serialize  (x : VReg) : (s.serialize).vec x = s.vec x := rfl
@[simp] theorem State.opmask_serialize  (x : KReg) : (s.serialize).opmask x = s.opmask x := rfl
@[simp] theorem State.byte_serialize  (x : Nat) : (s.serialize).byte x = s.byte x := rfl
@[simp] theorem State.gpr64_drawn  (x : GReg) : (s.drawn).gpr64 x = s.gpr64 x := rfl
@[simp] theorem State.vec_drawn  (x : VReg) : (s.drawn).vec x = s.vec x := rfl
@[simp] theorem State.opmask_drawn  (x : KReg) : (s.drawn).opmask x = s.opmask x := rfl
@[simp] theorem State.byte_drawn  (x : Nat) : (s.drawn).byte x = s.byte x := rfl
@[simp] theorem State.gpr64_putBytes (c : List (Nat × Byte)) (x : GReg) : (s.putBytes c).gpr64 x = s.gpr64 x := rfl
@[simp] theorem State.vec_putBytes (c : List (Nat × Byte)) (x : VReg) : (s.putBytes c).vec x = s.vec x := rfl
@[simp] theorem State.opmask_putBytes (c : List (Nat × Byte)) (x : KReg) : (s.putBytes c).opmask x = s.opmask x := rfl
@[simp] theorem State.gpr64_setKey (i : Nat) (e : KeySlot) (x : GReg) : (s.setKey i e).gpr64 x = s.gpr64 x := rfl
@[simp] theorem State.vec_setKey (i : Nat) (e : KeySlot) (x : VReg) : (s.setKey i e).vec x = s.vec x := rfl
@[simp] theorem State.opmask_setKey (i : Nat) (e : KeySlot) (x : KReg) : (s.setKey i e).opmask x = s.opmask x := rfl
@[simp] theorem State.byte_setKey (i : Nat) (e : KeySlot) (x : Nat) : (s.setKey i e).byte x = s.byte x := rfl
@[simp] theorem State.gpr64_loadBiosSign  (x : GReg) : (s.loadBiosSign).gpr64 x = s.gpr64 x := rfl
@[simp] theorem State.vec_loadBiosSign  (x : VReg) : (s.loadBiosSign).vec x = s.vec x := rfl
@[simp] theorem State.opmask_loadBiosSign  (x : KReg) : (s.loadBiosSign).opmask x = s.opmask x := rfl
@[simp] theorem State.byte_loadBiosSign  (x : Nat) : (s.loadBiosSign).byte x = s.byte x := rfl
@[simp] theorem State.gpr64_tickTsc  (x : GReg) : (s.tickTsc).gpr64 x = s.gpr64 x := rfl
@[simp] theorem State.vec_tickTsc  (x : VReg) : (s.tickTsc).vec x = s.vec x := rfl
@[simp] theorem State.opmask_tickTsc  (x : KReg) : (s.tickTsc).opmask x = s.opmask x := rfl
@[simp] theorem State.byte_tickTsc  (x : Nat) : (s.tickTsc).byte x = s.byte x := rfl
@[simp] theorem State.gpr64_wait  (x : GReg) : (s.wait).gpr64 x = s.gpr64 x := rfl
@[simp] theorem State.vec_wait  (x : VReg) : (s.wait).vec x = s.vec x := rfl
@[simp] theorem State.opmask_wait  (x : KReg) : (s.wait).opmask x = s.opmask x := rfl
@[simp] theorem State.byte_wait  (x : Nat) : (s.wait).byte x = s.byte x := rfl
@[simp] theorem State.gpr64_softwareRan  (x : GReg) : (s.softwareRan).gpr64 x = s.gpr64 x := rfl
@[simp] theorem State.vec_softwareRan  (x : VReg) : (s.softwareRan).vec x = s.vec x := rfl
@[simp] theorem State.opmask_softwareRan  (x : KReg) : (s.softwareRan).opmask x = s.opmask x := rfl
@[simp] theorem State.byte_softwareRan  (x : Nat) : (s.softwareRan).byte x = s.byte x := rfl
@[simp] theorem State.gpr64_arm (pa : Nat) (x : GReg) : (s.arm pa).gpr64 x = s.gpr64 x := rfl
@[simp] theorem State.vec_arm (pa : Nat) (x : VReg) : (s.arm pa).vec x = s.vec x := rfl
@[simp] theorem State.opmask_arm (pa : Nat) (x : KReg) : (s.arm pa).opmask x = s.opmask x := rfl
@[simp] theorem State.byte_arm (pa : Nat) (x : Nat) : (s.arm pa).byte x = s.byte x := rfl

/-- The bits of a CPUID register with one bit replaced. -/
theorem getLsbD_withBit (v : Word32) (n m : Nat) (b : Bool) (hn : n < 32) :
    (withBit v n b).getLsbD m = if m = n then b else v.getLsbD m := by
  unfold withBit
  by_cases hm : m = n
  · subst hm; cases b <;> simp [hn]
  · have h1 : (1#32 <<< n).getLsbD m = false := by simp; omega
    rw [if_neg hm, BitVec.getLsbD_or, BitVec.getLsbD_and, BitVec.getLsbD_not, h1]
    have h2 : (if b then 1#32 <<< n else 0#32).getLsbD m = false := by cases b <;> simp [h1]
    rw [h2]
    by_cases h : m < 32
    · simp [h]
    · simp [BitVec.getLsbD_of_ge _ _ (Nat.le_of_not_lt h)]

end Sys2Proof.Machine
end

