-- ==== Sys2Proof/Laws/Memory.lean ====
section
/-! SUPPORT. The laws of physical memory: a read after a write, and that every write keeps the canonical form
(20_memory.md R100). -/

namespace Sys2Proof.Machine

theorem memByte_eq_of_not_listed (m : List Host.Cell) (a : Nat) (h : ∀ c ∈ m, c.1 ≠ a) : memByte m a = unlistedByte := by
  induction m with
  | nil => rfl
  | cons c m ih =>
    have h1 : a ≠ c.1 := fun e => h c (by simp) e.symm
    simp only [memByte, h1, if_false]
    exact ih fun d hd => h d (by simp [hd])

theorem memByte_memErase (m : List Host.Cell) (a x : Nat) :
    memByte (memErase m a) x = if x = a then unlistedByte else memByte m x := by
  induction m with
  | nil => simp [memErase, memByte]
  | cons c m ih =>
    obtain ⟨k, v⟩ := c
    simp only [memErase] at ih ⊢
    by_cases hk : k = a
    · subst hk
      have e : (List.filter (fun c => c.1 != k) ((k, v) :: m)) = List.filter (fun c => c.1 != k) m := by simp
      rw [e, ih]
      by_cases hx : x = k <;> simp [memByte, hx]
    · have e : (List.filter (fun c => c.1 != a) ((k, v) :: m)) = (k, v) :: List.filter (fun c => c.1 != a) m := by
        simp [hk]
      rw [e]
      simp only [memByte]
      by_cases hx : x = k
      · subst hx; simp [hk]
      · simp only [hx, if_false]; exact ih

theorem memByte_memInsert (m : List Host.Cell) (a : Nat) (b : Byte) (x : Nat) (h : ∀ c ∈ m, c.1 ≠ a) :
    memByte (memInsert m a b) x = if x = a then b else memByte m x := by
  induction m with
  | nil => simp [memInsert, memByte]
  | cons c m ih =>
    obtain ⟨k, v⟩ := c
    have hk : k ≠ a := h (k, v) (by simp)
    have hm : ∀ c ∈ m, c.1 ≠ a := fun d hd => h d (by simp [hd])
    simp only [memInsert]
    split
    · simp [memByte]
    · simp only [memByte]
      by_cases hx : x = k
      · subst hx; simp [hk]
      · simp only [hx, if_false]; exact ih hm

theorem memErase_not_listed (m : List Host.Cell) (a : Nat) : ∀ c ∈ memErase m a, c.1 ≠ a := by
  intro c hc
  simpa using (List.mem_filter.mp hc).2

/-- A read after a write of one byte. -/
theorem memByte_memSet (m : List Host.Cell) (a : Nat) (b : Byte) (x : Nat) :
    memByte (memSet m a b) x = if x = a then b else memByte m x := by
  unfold memSet
  split
  · rename_i hb; rw [memByte_memErase, hb]
  · rw [memByte_memInsert _ _ _ _ (memErase_not_listed m a), memByte_memErase]
    by_cases hx : x = a <;> simp [hx]

/-- A write of several bytes leaves every other address alone. -/
theorem memByte_memSetMany_other (m : List Host.Cell) (cells : List (Nat × Byte)) (x : Nat)
    (h : x ∉ cells.map (·.1)) : memByte (memSetMany m cells) x = memByte m x := by
  induction cells generalizing m with
  | nil => rfl
  | cons c cells ih =>
    obtain ⟨a, b⟩ := c
    simp only [List.map_cons, List.mem_cons, not_or] at h
    simp only [memSetMany]
    rw [ih _ h.2, memByte_memSet]
    simp [h.1]

/-- A write of several bytes at distinct addresses writes each. -/
theorem memByte_memSetMany_at (m : List Host.Cell) (cells : List (Nat × Byte)) (h : (cells.map (·.1)).Nodup)
    (a : Nat) (b : Byte) (hc : (a, b) ∈ cells) : memByte (memSetMany m cells) a = b := by
  induction cells generalizing m with
  | nil => simp at hc
  | cons c cells ih =>
    obtain ⟨k, v⟩ := c
    simp only [List.map_cons, List.nodup_cons] at h
    simp only [memSetMany]
    rcases List.mem_cons.mp hc with e | e
    · obtain ⟨rfl, rfl⟩ := Prod.mk.inj e
      rw [memByte_memSetMany_other _ _ _ h.1, memByte_memSet]; simp
    · exact ih _ h.2 e

/-! ### The canonical form -/

theorem memErase_wf (m : List Host.Cell) (a : Nat) (h : Memory.wf m) : Memory.wf (memErase m a) :=
  ⟨h.1.sublist List.filter_sublist, fun c hc => h.2 c (List.mem_filter.mp hc).1⟩

theorem mem_memInsert (m : List Host.Cell) (a : Nat) (b : Byte) (c : Host.Cell) (h : c ∈ memInsert m a b) :
    c = (a, b) ∨ c ∈ m := by
  induction m with
  | nil => simpa [memInsert] using h
  | cons d m ih =>
    obtain ⟨k, v⟩ := d
    simp only [memInsert] at h
    split at h
    · simpa using h
    · rcases List.mem_cons.mp h with e | e
      · exact .inr (by simp [e])
      · rcases ih e with e | e
        · exact .inl e
        · exact .inr (by simp [e])

theorem memInsert_wf (m : List Host.Cell) (a : Nat) (b : Byte) (h : Memory.wf m) (hb : b ≠ unlistedByte)
    (ha : ∀ c ∈ m, c.1 ≠ a) : Memory.wf (memInsert m a b) := by
  induction m with
  | nil => exact ⟨by simp [memInsert], by simpa [memInsert] using hb⟩
  | cons d m ih =>
    obtain ⟨k, v⟩ := d
    have hk : k ≠ a := ha (k, v) (by simp)
    obtain ⟨hp, hn⟩ := h
    rw [List.pairwise_cons] at hp
    simp only [memInsert]
    split
    · rename_i hlt
      refine ⟨List.pairwise_cons.mpr ⟨?_, List.pairwise_cons.mpr hp⟩, ?_⟩
      · intro c hc
        rcases List.mem_cons.mp hc with e | e
        · simpa [e] using hlt
        · exact Nat.lt_trans hlt (hp.1 c e)
      · intro c hc
        rcases List.mem_cons.mp hc with e | e
        · simpa [e] using hb
        · exact hn c e
    · rename_i hge
      obtain ⟨ip, iv⟩ := ih ⟨hp.2, fun c hc => hn c (by simp [hc])⟩ fun c hc => ha c (by simp [hc])
      refine ⟨List.pairwise_cons.mpr ⟨?_, ip⟩, ?_⟩
      · intro c hc
        rcases mem_memInsert m a b c hc with e | e
        · subst e; show k < a; omega
        · exact hp.1 c e
      · intro c hc
        rcases List.mem_cons.mp hc with e | e
        · exact hn c (by simp [e])
        · exact iv c e

/-- A write of one byte keeps the canonical form. -/
theorem memSet_wf (m : List Host.Cell) (a : Nat) (b : Byte) (h : Memory.wf m) : Memory.wf (memSet m a b) := by
  unfold memSet
  split
  · exact memErase_wf m a h
  · rename_i hb; exact memInsert_wf _ a b (memErase_wf m a h) hb (memErase_not_listed m a)

/-- A write of several bytes keeps the canonical form. -/
theorem memSetMany_wf (m : List Host.Cell) (cells : List (Nat × Byte)) (h : Memory.wf m) :
    Memory.wf (memSetMany m cells) := by
  induction cells generalizing m with
  | nil => exact h
  | cons c cells ih => exact ih _ (memSet_wf m c.1 c.2 h)

/-! ### Which addresses are listed -/

theorem mem_memSet (m : List Host.Cell) (a : Nat) (b : Byte) (c : Host.Cell) (h : c ∈ memSet m a b) :
    c = (a, b) ∨ c ∈ m := by
  unfold memSet at h
  split at h
  · exact .inr (List.mem_filter.mp h).1
  · rcases mem_memInsert _ a b c h with e | e
    · exact .inl e
    · exact .inr (List.mem_filter.mp e).1

/-- A write lists no address that was neither listed nor written. -/
theorem mem_memSetMany (m : List Host.Cell) (cells : List (Nat × Byte)) (c : Host.Cell)
    (h : c ∈ memSetMany m cells) : c ∈ cells ∨ c ∈ m := by
  induction cells generalizing m with
  | nil => exact .inr h
  | cons x cells ih =>
    rcases ih _ h with e | e
    · exact .inl (by simp [e])
    · rcases mem_memSet _ _ _ _ e with e | e
      · exact .inl (by simp [e])
      · exact .inr e

/-- Memory stays within the physical address space (20_memory.md R101). -/
theorem memSetMany_inside (m : List Host.Cell) (cells : List (Nat × Byte)) (n : Nat) (hm : ∀ c ∈ m, c.1 < n)
    (hc : ∀ c ∈ cells, c.1 < n) : ∀ c ∈ memSetMany m cells, c.1 < n := fun c h =>
  (mem_memSetMany m cells c h).elim (hc c) (hm c)

theorem mem_cellsInside (c : Cfg) (cells : List (Nat × Byte)) (x : Nat × Byte) :
    x ∈ cellsInside c cells ↔ x ∈ cells ∧ x.1 < 2 ^ c.maxPhyAddr := by simp [cellsInside]

/-- Cells inside the physical address space are kept. -/
theorem cellsInside_of_lt {c : Cfg} {cells : List (Nat × Byte)} (h : ∀ x ∈ cells, x.1 < 2 ^ c.maxPhyAddr) :
    cellsInside c cells = cells := List.filter_eq_self.mpr fun x hx => by simpa using h x hx

/-! ### Stores -/

theorem State.byte_putBytes_other (s : State) (c : List (Nat × Byte)) (x : Nat) (h : x ∉ c.map (·.1)) :
    (s.putBytes c).byte x = s.byte x := memByte_memSetMany_other _ _ _ h

/-- What a store by this logical processor does: the bytes land, its own monitor may be triggered (45_waitpkg.md R383). -/
theorem State.storeOwn_spec (s : State) (c : List (Nat × Byte)) :
    (s.storeOwn c).mem = memSetMany s.mem c ∧
      ((s.storeOwn c).monitor = s.monitor ∨ (s.storeOwn c).monitor = none) := by
  unfold State.storeOwn
  dsimp only
  split
  · refine ⟨rfl, ?_⟩
    dsimp only
    split
    · exact .inr rfl
    · exact .inl rfl
  · exact ⟨rfl, .inl rfl⟩

/-- What a store by another agent does: the bytes at addresses that exist land, and the monitor is triggered if its block
is touched (R383; 20_memory.md R101). -/
theorem State.storeByAgent_spec (s : State) (c : List (Nat × Byte)) :
    (s.storeByAgent c).mem = memSetMany s.mem (cellsInside s.cfg c) ∧
      (s.storeByAgent c).monitor =
        if s.monitorHit ((cellsInside s.cfg c).map (·.1)) then none else s.monitor := by
  unfold State.storeByAgent
  dsimp only
  split
  · exact ⟨rfl, rfl⟩
  · exact ⟨rfl, rfl⟩

/-! ### Another agent's store while an instruction runs (R108) -/

theorem mem_landing (s : State) (early : Bool) (pa : Nat) (bytes : List Byte) (x : Nat × Byte) :
    x ∈ landing s early pa bytes ↔
      ∃ i < bytes.length, Config.drawBool (s.draws + i) = early ∧ x = (pa + i, bytes.getD i 0#8) := by
  simp only [landing, List.mem_map, List.mem_filter, List.mem_range, beq_iff_eq, and_assoc]
  exact exists_congr fun i => and_congr_right fun _ => and_congr_right fun _ => eq_comm

/-- No byte lands twice. -/
theorem landing_nodup (s : State) (early : Bool) (pa : Nat) (bytes : List Byte) :
    ((landing s early pa bytes).map (·.1)).Nodup := by
  simp only [landing, List.map_map]
  exact (List.nodup_range.filter _).map fun a b h => Nat.add_left_cancel h

/-- What the instruction finds: byte by byte the stored value or the one before (R108). -/
theorem State.storeEarly_byte (s : State) (pa : Nat) (bytes : List Byte) (h : pa + bytes.length ≤ 2 ^ s.cfg.maxPhyAddr)
    (i : Nat) (hi : i < bytes.length) : (s.storeEarly pa bytes).byte (pa + i) =
      if Config.drawBool (s.draws + i) then bytes.getD i 0#8 else s.byte (pa + i) := by
  have hin : cellsInside s.cfg (landing s true pa bytes) = landing s true pa bytes :=
    cellsInside_of_lt fun x hx => by
      obtain ⟨j, hj, -, rfl⟩ := (mem_landing ..).mp hx
      exact Nat.lt_of_lt_of_le (Nat.add_lt_add_left hj pa) h
  simp only [State.byte, State.storeEarly, (s.storeByAgent_spec _).1, hin]
  split
  · rename_i hd
    exact memByte_memSetMany_at _ _ (landing_nodup ..) _ _ ((mem_landing ..).mpr ⟨i, hi, hd, rfl⟩)
  · rename_i hd
    refine memByte_memSetMany_other _ _ _ fun hm => hd ?_
    obtain ⟨x, hx, e⟩ := List.mem_map.mp hm
    obtain ⟨j, -, hj, rfl⟩ := (mem_landing ..).mp hx
    rwa [← Nat.add_left_cancel e]

/-- What a store during an instruction leaves: where the instruction gives a next state, the bytes it did not find land in
it (R108). -/
theorem landAfter_next {late : List (Nat × Byte)} {o : Host.Outcome State Fault Refusal} {t : State}
    (h : landAfter late o = .next t) : ∃ u, o = .next u ∧ t = u.storeByAgent late := by
  cases o with
  | next u => exact ⟨u, rfl, (Host.Outcome.next.inj h).symm⟩
  | fault f => cases h
  | refused r => cases h

end Sys2Proof.Machine
end

