-- ==== Sys2Proof/Laws/Vector.lean ====
section
/-! SUPPORT. The laws of vectors: an element of a vector built from its elements, zero above the vector length, masked
writes, bytes and vectors, bits of an opmask (00_scope.md R12, 60_exceptions.md R616). -/

namespace Sys2Proof.Machine

theorem getLsbD_elem (E : Nat) (v : Vec) (j i : Nat) :
    (elem E v j).getLsbD i = (decide (i < E) && v.getLsbD (E * j + i)) := by simp [elem]

theorem getLsbD_lanesFrom (E : Nat) (f : Nat → BitVec E) (n j i : Nat) (hE : 0 < E) :
    (lanesFrom E f n j).getLsbD i = (decide (i < 512) && decide (i < E * n) && (f (j + i / E)).getLsbD (i % E)) := by
  induction n generalizing j i with
  | zero => simp [lanesFrom]
  | succ n ih =>
    simp only [lanesFrom, BitVec.getLsbD_or, BitVec.getLsbD_shiftLeft, BitVec.getLsbD_setWidth, ih]
    by_cases h5 : i < 512
    · by_cases hi : i < E
      · have h1 : i < E * (n + 1) := Nat.lt_of_lt_of_le hi (Nat.le_mul_of_pos_right E (Nat.succ_pos n))
        simp [h5, hi, h1, Nat.div_eq_of_lt hi, Nat.mod_eq_of_lt hi]
      · have hge : E ≤ i := Nat.le_of_not_lt hi
        have hf : (f j).getLsbD i = false := BitVec.getLsbD_of_ge _ _ hge
        have h1 : decide (i - E < E * n) = decide (i < E * (n + 1)) := by
          have : E * (n + 1) = E * n + E := by rw [Nat.mul_add, Nat.mul_one]
          rw [this, decide_eq_decide]; omega
        have h2 : j + 1 + (i - E) / E = j + i / E := by rw [Nat.div_eq_sub_div hE hge]; omega
        have h3 : (i - E) % E = i % E := (Nat.mod_eq_sub_mod hge).symm
        have h4 : i - E < 512 := by omega
        simp [h5, hi, hf, h1, h2, h3, h4]
    · simp [h5]

theorem getLsbD_lanes (E n : Nat) (f : Nat → BitVec E) (i : Nat) (hE : 0 < E) :
    (lanes E n f).getLsbD i = (decide (i < 512) && decide (i < E * n) && (f (i / E)).getLsbD (i % E)) := by
  rw [lanes, getLsbD_lanesFrom _ _ _ _ _ hE, Nat.zero_add]

/-- An element of a vector built from its elements. -/
theorem elem_lanes (E n : Nat) (f : Nat → BitVec E) (j : Nat) (hE : 0 < E) (hn : E * n ≤ 512) (hj : j < n) :
    elem E (lanes E n f) j = f j := by
  apply BitVec.eq_of_getLsbD_eq
  intro i hi
  have h1 : E * j + i < E * n := by
    have : E * (j + 1) ≤ E * n := Nat.mul_le_mul_left E hj
    rw [Nat.mul_add, Nat.mul_one] at this; omega
  have h2 : (E * j + i) / E = j := by rw [Nat.mul_add_div hE, Nat.div_eq_of_lt hi]; rfl
  have h3 : (E * j + i) % E = i := by rw [Nat.mul_add_mod, Nat.mod_eq_of_lt hi]
  rw [getLsbD_elem, getLsbD_lanes _ _ _ _ hE, h2, h3]
  simp [hi, h1, Nat.lt_of_lt_of_le h1 hn]

/-- Bits above the given elements are 0. -/
theorem lanes_lt (E n : Nat) (f : Nat → BitVec E) (hE : 0 < E) : (lanes E n f).toNat < 2 ^ (E * n) := by
  apply Nat.lt_pow_two_of_testBit
  intro i hi
  have : (lanes E n f).getLsbD i = false := by
    rw [getLsbD_lanes _ _ _ _ hE]
    simp [Nat.not_lt.mpr hi]
  simpa [BitVec.getLsbD] using this

/-- `lanes` as elements of a vector of length `vl`. -/
theorem hasElems_lanes (w vl : Nat) (f : Nat → BitVec w) (hw : 0 < w) (hv : vl ≤ 512) (hd : w * (vl / w) = vl) :
    HasElems w vl (lanes w (vl / w) f) f :=
  ⟨fun j hj => elem_lanes w _ f j hw (by omega) hj, by have := lanes_lt w (vl / w) f hw; rwa [hd] at this⟩

/-- A masked write, element by element (60_exceptions.md R616). -/
theorem hasElems_maskMerge (r : VecRow) (act : Nat → Bool) (z : Bool) (old res : Vec) (hw : 0 < r.esz)
    (hv : r.vl ≤ 512) (hd : r.esz * (r.vl / r.esz) = r.vl) :
    HasElems r.esz r.vl (maskMerge r act z old res)
      fun j => if act j then elem r.esz res j else if z then 0 else elem r.esz old j :=
  hasElems_lanes r.esz r.vl _ hw hv hd

/-- `HasElems` of the same elements. -/
theorem HasElems.congr {w vl : Nat} {v : Vec} {f g : Nat → BitVec w} (h : HasElems w vl v f)
    (e : ∀ j, j < vl / w → f j = g j) : HasElems w vl v g :=
  ⟨fun j hj => (h.1 j hj).trans (e j hj), h.2⟩

theorem getLsbD_sseMerge (old res : Vec) (i : Nat) :
    (sseMerge old res).getLsbD i = if i < 128 then res.getLsbD i else old.getLsbD i := by
  have h := BitVec.getLsbD_append (x := old.extractLsb' 128 384) (y := res.setWidth 128) (i := i)
  rw [show sseMerge old res = old.extractLsb' 128 384 ++ res.setWidth 128 from rfl]
  refine h.trans ?_
  by_cases hi : i < 128
  · simp [hi]
  · have h1 : 128 + (i - 128) = i := by omega
    by_cases h5 : i < 512
    · have h2 : i - 128 < 384 := by omega
      simp [hi, h1, h2]
    · have h2 : ¬ (i - 128 < 384) := by omega
      have h3 : old.getLsbD i = false := BitVec.getLsbD_of_ge _ _ (by omega)
      simp [hi, h1, h3]

/-- The low part of a legacy-SSE destination (10_state.md R41). -/
theorem sseMerge_low (old res : Vec) : (sseMerge old res).extractLsb' 0 128 = res.extractLsb' 0 128 := by
  apply BitVec.eq_of_getLsbD_eq
  intro i hi
  simp [getLsbD_sseMerge, hi]

/-- The part above 128 bits of a legacy-SSE destination is unmodified. -/
theorem sseMerge_high (old res : Vec) : (sseMerge old res).extractLsb' 128 384 = old.extractLsb' 128 384 := by
  apply BitVec.eq_of_getLsbD_eq
  intro i hi
  have h1 : ¬ 128 + i < 128 := by omega
  simp only [BitVec.getLsbD_extractLsb', getLsbD_sseMerge, h1, if_false]

/-- An element of the low part of a legacy-SSE destination. -/
theorem elem_sseMerge (E : Nat) (old res : Vec) (j : Nat) (h : E * (j + 1) ≤ 128) :
    elem E (sseMerge old res) j = elem E res j := by
  apply BitVec.eq_of_getLsbD_eq
  intro i hi
  have h1 : E * j + i < 128 := by rw [Nat.mul_add, Nat.mul_one] at h; omega
  simp [getLsbD_elem, getLsbD_sseMerge, h1]

/-! ### Bytes -/

theorem getLsbD_vecOfBytes (bs : List Byte) (i : Nat) :
    (vecOfBytes bs).getLsbD i = (decide (i < 512) && (bs.getD (i / 8) 0#8).getLsbD (i % 8)) := by
  induction bs generalizing i with
  | nil => simp [vecOfBytes]
  | cons b bs ih =>
    simp only [vecOfBytes, BitVec.getLsbD_or, BitVec.getLsbD_shiftLeft, BitVec.getLsbD_setWidth, ih]
    by_cases h5 : i < 512
    · by_cases hi : i < 8
      · simp [h5, hi, Nat.div_eq_of_lt hi, Nat.mod_eq_of_lt hi]
      · have h1 : i / 8 = (i - 8) / 8 + 1 := by omega
        have h2 : (i - 8) % 8 = i % 8 := by omega
        have h3 : b.getLsbD i = false := BitVec.getLsbD_of_ge _ _ (by omega)
        have h4 : i - 8 < 512 := by omega
        rw [h1]
        simp [h5, hi, h2, h3, h4]
    · simp [h5]

/-- A byte of a vector read from memory (20_memory.md R100). -/
theorem elem_vecOfBytes (bs : List Byte) (j : Nat) (hj : j < 64) : elem 8 (vecOfBytes bs) j = bs.getD j 0#8 := by
  apply BitVec.eq_of_getLsbD_eq
  intro i hi
  rw [getLsbD_elem, getLsbD_vecOfBytes]
  have h1 : (8 * j + i) / 8 = j := by omega
  have h2 : (8 * j + i) % 8 = i := by omega
  have h3 : 8 * j + i < 512 := by omega
  simp [hi, h1, h2, h3]

@[simp] theorem bytesOfVec_length (v : Vec) (n : Nat) : (bytesOfVec v n).length = n := by simp [bytesOfVec]

/-! ### Opmasks and bytes from bits -/

theorem getLsbD_maskFrom (f : Nat → Bool) (n j i : Nat) :
    (maskFrom f n j).getLsbD i = (decide (i < 64) && decide (i < n) && f (j + i)) := by
  induction n generalizing j i with
  | zero => simp [maskFrom]
  | succ n ih =>
    simp only [maskFrom, BitVec.getLsbD_or, BitVec.getLsbD_shiftLeft, BitVec.getLsbD_setWidth, ih]
    by_cases h6 : i < 64
    · cases i with
      | zero => simp
      | succ i =>
        have h1 : i < 64 := by omega
        have h2 : j + 1 + i = j + (i + 1) := by omega
        simp [h6, h1, h2]
    · simp [h6]

theorem getLsbD_byteFrom (f : Nat → Bool) (n j i : Nat) :
    (byteFrom f n j).getLsbD i = (decide (i < 8) && decide (i < n) && f (j + i)) := by
  induction n generalizing j i with
  | zero => simp [byteFrom]
  | succ n ih =>
    simp only [byteFrom, BitVec.getLsbD_or, BitVec.getLsbD_shiftLeft, BitVec.getLsbD_setWidth, ih]
    by_cases h6 : i < 8
    · cases i with
      | zero => simp
      | succ i =>
        have h1 : i < 8 := by omega
        have h2 : j + 1 + i = j + (i + 1) := by omega
        simp [h6, h1, h2]
    · simp [h6]

end Sys2Proof.Machine
end

