-- ==== Sys2Proof/Laws/Access.lean ====
section
/-! SUPPORT. What an access to memory by linear address can do: it changes nothing but accessed and dirty flags, cached
sub-page permissions and the count of free values, and it yields one physical address for each byte; and what it is
where linear addresses are physical ones (20_memory.md R104, R110). -/

namespace Sys2Proof.Machine

/-- What checking an access may change. -/
def AfterChecks (s t : State) : Prop :=
  t = { s with paging := t.paging, draws := t.draws, vmx := { s.vmx with sppCache := t.vmx.sppCache } }

theorem AfterChecks.refl (s : State) : AfterChecks s s := rfl

theorem AfterChecks.trans {s t u : State} (h : AfterChecks s t) (k : AfterChecks t u) : AfterChecks s u := by
  unfold AfterChecks at *
  rw [k, h]

theorem AfterChecks.mem {s t : State} (h : AfterChecks s t) : t.mem = s.mem := by rw [h]
theorem AfterChecks.gpr {s t : State} (h : AfterChecks s t) : t.gpr = s.gpr := by rw [h]
theorem AfterChecks.zmm {s t : State} (h : AfterChecks s t) : t.zmm = s.zmm := by rw [h]
theorem AfterChecks.k {s t : State} (h : AfterChecks s t) : t.k = s.k := by rw [h]
theorem AfterChecks.cfg {s t : State} (h : AfterChecks s t) : t.cfg = s.cfg := by rw [h]
theorem AfterChecks.rflags {s t : State} (h : AfterChecks s t) : t.rflags = s.rflags := by rw [h]
theorem AfterChecks.rip {s t : State} (h : AfterChecks s t) : t.rip = s.rip := by rw [h]
theorem AfterChecks.nextRip {s t : State} (h : AfterChecks s t) : t.nextRip = s.nextRip := by rw [h]
theorem AfterChecks.msr {s t : State} (h : AfterChecks s t) : t.msr = s.msr := by rw [h]
theorem AfterChecks.tsc {s t : State} (h : AfterChecks s t) : t.tsc = s.tsc := by rw [h]
theorem AfterChecks.sys {s t : State} (h : AfterChecks s t) : t.sys = s.sys := by rw [h]
theorem AfterChecks.monitor {s t : State} (h : AfterChecks s t) : t.monitor = s.monitor := by rw [h]
theorem AfterChecks.keyTable {s t : State} (h : AfterChecks s t) : t.keyTable = s.keyTable := by rw [h]
theorem AfterChecks.keyTableLock {s t : State} (h : AfterChecks s t) : t.keyTableLock = s.keyTableLock := by rw [h]
theorem AfterChecks.hfi {s t : State} (h : AfterChecks s t) : t.hfi = s.hfi := by rw [h]
theorem AfterChecks.pt {s t : State} (h : AfterChecks s t) : t.pt = s.pt := by rw [h]
theorem AfterChecks.inputs {s t : State} (h : AfterChecks s t) : t.inputs = s.inputs := by rw [h]
theorem AfterChecks.stale {s t : State} (h : AfterChecks s t) : t.stale = s.stale := by rw [h]
theorem AfterChecks.vmx {s t : State} (h : AfterChecks s t) : t.vmx = { s.vmx with sppCache := t.vmx.sppCache } := by
  conv => lhs; rw [h]
theorem AfterChecks.vec {s t : State} (h : AfterChecks s t) (r : VReg) : t.vec r = s.vec r := by
  simp only [State.vec, h.zmm, h.cfg]
theorem AfterChecks.byte {s t : State} (h : AfterChecks s t) (a : Nat) : t.byte a = s.byte a := by
  simp only [State.byte, h.mem]

/-- What follows `AfterChecks` in the words of Safety. -/
theorem AfterChecks.sameSystem {s t : State} (h : AfterChecks s t) : SameSystem s t :=
  ⟨h.cfg, h.sys, h.hfi, h.pt, h.inputs, h.keyTableLock, h.vmx⟩

theorem AfterChecks.frameRegs {s t : State} (h : AfterChecks s t) : FrameRegs s t :=
  ⟨h.byte, h.msr, h.tsc, h.monitor, h.keyTable, h.sameSystem⟩

/-- The cache line is eight times a field of eight bits that is not 0 (00_scope.md R8; 41_cpuid_leaves.md R253). -/
theorem clflushLine_spec (c : Cfg) : 8 * (c.clflushLine / 8) = c.clflushLine ∧ 1 ≤ c.clflushLine / 8 ∧
    c.clflushLine / 8 < 256 := by
  unfold Cfg.clflushLine; omega

/-! ### Peeling a computation -/

theorem bind_ok {ε α β : Type} {x : Except ε α} {f : α → Except ε β} {b : β} (h : (x >>= f) = .ok b) :
    ∃ a, x = .ok a ∧ f a = .ok b := by
  cases x with
  | error e => cases h
  | ok a => exact ⟨a, rfl, h⟩

@[simp] theorem ok_bind {ε α β : Type} (a : α) (f : α → Except ε β) : (Except.ok a >>= f) = f a := rfl
@[simp] theorem error_bind {ε α β : Type} (e : ε) (f : α → Except ε β) : (Except.error e >>= f) = .error e := rfl

theorem check_ok {s : State} {c : Bool} {e : Exc} {u : Unit} (h : check s c e = .ok u) : c = true := by
  unfold check at h
  split at h
  · assumption
  · cases h

@[simp] theorem check_true (s : State) (e : Exc) : check s true e = .ok () := rfl
@[simp] theorem check_false (s : State) (e : Exc) : check s false e = .error (raise s e) := rfl

@[simp] theorem finish_ok (s : State) : finish (.ok s) = .next s := rfl
@[simp] theorem finish_pure (s : State) : finish (pure s) = .next s := rfl
@[simp] theorem finish_raise (s : State) (e : Exc) :
    finish (.error (raise s e)) = .fault (.exception e (errorCode s e) none) := rfl

/-- An outcome that is a next state comes from a result or from a VM exit. -/
theorem finish_next {x : Except Stop State} {t : State} (h : finish x = .next t) :
    x = .ok t ∨ x = .error (.exit t) := by
  cases x with
  | ok s => left; simpa [finish] using h
  | error e =>
    cases e with
    | fault f => cases h
    | refused r => cases h
    | exit s => right; simpa [finish] using h

/-! ### Translation -/

theorem translate_spec {s t : State} {k : AccessKind} {la : Word64} {pa : Nat} (h : translate s k la = .ok (pa, t)) :
    AfterChecks s t := by
  unfold translate at h
  split at h
  · cases h; exact AfterChecks.refl _
  · split at h
    · cases h
    · split at h
      · cases h; rfl
      · cases h

theorem translateAll_spec {k : AccessKind} {cs : List (Word64 × Nat)} {s t : State} {ts : List (Word64 × Nat × Nat)}
    (h : translateAll s k cs = .ok (ts, t)) : AfterChecks s t ∧ ts.map (·.2.2) = cs.map (·.2) := by
  induction cs generalizing s ts with
  | nil => cases h; exact ⟨AfterChecks.refl _, rfl⟩
  | cons c cs ih =>
    obtain ⟨la, n⟩ := c
    simp only [translateAll] at h
    obtain ⟨⟨pa, s1⟩, h1, h⟩ := bind_ok h
    obtain ⟨⟨ts', s2⟩, h2, h⟩ := bind_ok h
    cases h
    obtain ⟨a, b⟩ := ih h2
    exact ⟨(translate_spec h1).trans a, by simp [b]⟩

/-! ### Second-level checks -/

theorem AfterChecks.drawn (s : State) : AfterChecks s s.drawn := rfl
theorem AfterChecks.sppKeep (s : State) (gpa l : Nat) (v : Word64) : AfterChecks s (s.sppKeep gpa l v) := rfl

theorem sppEntry_spec (s : State) (gpa l a : Nat) : AfterChecks s (sppEntry s gpa l a).2 := by
  unfold sppEntry
  dsimp only
  split
  · exact AfterChecks.refl _
  · exact AfterChecks.drawn _

theorem sppWalk_spec (n : Nat) (s : State) (gpa : Nat) (base : Word64) : AfterChecks s (sppWalk s gpa base n).2 := by
  induction n generalizing s base with
  | zero =>
    simp only [sppWalk]
    have h := sppEntry_spec s gpa 1 (sppAddr base gpa 12)
    split
    · exact h
    · exact h.trans (AfterChecks.sppKeep _ _ _ _)
  | succ n ih =>
    simp only [sppWalk]
    have h := sppEntry_spec s gpa (n + 2) (sppAddr base gpa (12 + 9 * (n + 1)))
    split
    · exact h
    · split
      · exact h
      · exact (h.trans (AfterChecks.sppKeep _ _ _ _)).trans (ih _ _)

theorem sppWrite_spec {s t : State} {e : EptEntry} {spp crosses : Bool} {la : Word64} {gpa n : Nat}
    (h : sppWrite s e spp crosses la gpa n = .ok t) : AfterChecks s t := by
  unfold sppWrite at h
  split at h
  · have w := sppWalk_spec 3 s gpa s.vmx.vmcs.spptp
    split at h
    · rename_i l1e s' hs
      split at h
      · cases h
        rw [show sppWalk s gpa s.vmx.vmcs.spptp 3 = _ from hs] at w
        exact w
      · cases h
    · cases h
    · cases h
  · cases h

theorem eptChunk_spec {s t : State} {k : AccessKind} {weak crosses : Bool} {la : Word64} {gpa n pa : Nat}
    (h : eptChunk s k weak crosses la gpa n = .ok (pa, t)) : AfterChecks s t := by
  unfold eptChunk at h
  split at h
  · cases h
  · dsimp only at h
    split at h
    · cases h
    · split at h
      · cases h
      · split at h
        · split at h
          · cases h
          · cases h; exact AfterChecks.refl _
        · split at h
          · split at h <;> cases h
          · split at h
            · split at h
              · cases hw : sppWrite s.drawn _ s.anyBool crosses la gpa n with
                | error e => rw [hw] at h; cases h
                | ok u => rw [hw] at h; cases h; exact (AfterChecks.drawn s).trans (sppWrite_spec hw)
              · cases hw : sppWrite s _ _ crosses la gpa n with
                | error e => rw [hw] at h; cases h
                | ok u => rw [hw] at h; cases h; exact sppWrite_spec hw
            · split at h
              · split at h
                · cases h
                · cases h; exact AfterChecks.drawn s
              · cases h; exact AfterChecks.refl _

/-- The second-level check of a chunk changes nothing but what checks may. -/
theorem secondLevel_spec {s t : State} {k : AccessKind} {weak crosses : Bool} {la : Word64} {gpa n pa : Nat}
    (h : secondLevel s k weak crosses la gpa n = .ok (pa, t)) : AfterChecks s t := by
  unfold secondLevel at h
  split at h
  · obtain ⟨⟨pa1, s1⟩, h1, h⟩ := bind_ok h
    obtain ⟨_, -, h⟩ := bind_ok h
    cases h
    exact eptChunk_spec h1
  · cases h
    exact AfterChecks.refl _

/-- The physical addresses of some chunks, one for each byte, each in the physical address space. -/
theorem physical_map {s : State} {l : List Nat} : (l.map s.physical).length = l.length ∧
    ∀ a ∈ l.map s.physical, a < 2 ^ s.cfg.maxPhyAddr :=
  ⟨List.length_map _, fun a ha => by
    obtain ⟨b, -, rfl⟩ := List.mem_map.mp ha
    exact Nat.mod_lt _ (Nat.two_pow_pos _)⟩

theorem eptAll_spec {k : AccessKind} {weak : Bool} {ts : List (Word64 × Nat × Nat)} {s t : State} {pas : List Nat}
    (h : eptAll s k weak ts = .ok (pas, t)) (hl : ts.length ≤ 2) :
    AfterChecks s t ∧ pas.length = (ts.map (·.2.2)).sum ∧ ∀ a ∈ pas, a < 2 ^ s.cfg.maxPhyAddr := by
  match ts, h, hl with
  | [], h, _ => cases h; exact ⟨AfterChecks.refl _, rfl, by simp⟩
  | [(la, gpa, n)], h, _ =>
    simp only [eptAll] at h
    obtain ⟨⟨pa, s1⟩, h1, h⟩ := bind_ok h
    cases h
    have a := secondLevel_spec h1
    exact ⟨a, by simp [chunkBytes], by rw [← a.cfg]; exact physical_map.2⟩
  | [(la, gpa, n), (la', gpa', n')], h, _ =>
    simp only [eptAll] at h
    split at h
    · obtain ⟨⟨pa, s1⟩, h1, h⟩ := bind_ok h
      obtain ⟨⟨pa', s2⟩, h2, h⟩ := bind_ok h
      cases h
      have a := ((AfterChecks.drawn s).trans (secondLevel_spec h1)).trans (secondLevel_spec h2)
      exact ⟨a, by simp [chunkBytes], by rw [← a.cfg]; exact physical_map.2⟩
    · obtain ⟨⟨pa, s1⟩, h1, h⟩ := bind_ok h
      obtain ⟨⟨pa', s2⟩, h2, h⟩ := bind_ok h
      cases h
      have a : AfterChecks s s2 := by
        refine AfterChecks.trans ?_ ((secondLevel_spec h1).trans (secondLevel_spec h2))
        split
        · exact AfterChecks.drawn s
        · exact AfterChecks.refl s
      exact ⟨a, by simp [chunkBytes], by rw [← a.cfg]; exact physical_map.2⟩

theorem pageChunks_sum (s : State) (la : Word64) (n : Nat) : ((pageChunks s la n).map (·.2)).sum = n := by
  unfold pageChunks
  dsimp only
  split
  · simp_all
  · split
    · simp
    · simp; omega

theorem pageChunks_length (s : State) (la : Word64) (n : Nat) : (pageChunks s la n).length ≤ 2 := by
  unfold pageChunks
  dsimp only
  split <;> [simp; (split <;> simp)]

/-! ### The whole check -/

/-- What the checks of an access can do: one physical address for each byte, in the physical address space, and nothing
but flags of pages, cached sub-page permissions and draws changes. -/
theorem locate_spec {s t : State} {a : Access} {seg : Seg} {off : Word64} {n : Nat} {pas : List Nat}
    (h : locate s a seg off n = .ok (pas, t)) :
    AfterChecks s t ∧ pas.length = n ∧ ∀ x ∈ pas, x < 2 ^ s.cfg.maxPhyAddr := by
  unfold locate at h
  dsimp only at h
  split at h
  · cases h
  · obtain ⟨_, -, h⟩ := bind_ok h
    obtain ⟨⟨ts, u⟩, h2, h⟩ := bind_ok h
    obtain ⟨_, -, h⟩ := bind_ok h
    obtain ⟨_, -, h⟩ := bind_ok h
    obtain ⟨a1, b1⟩ := translateAll_spec h2
    have hl : ts.length ≤ 2 := by
      rw [← List.length_map (·.2.2), b1, List.length_map]; exact pageChunks_length _ _ _
    obtain ⟨a2, b2, c2⟩ := eptAll_spec h hl
    exact ⟨a1.trans a2, by rw [b2, b1, pageChunks_sum], by rw [← a1.cfg]; exact c2⟩

/-- What a read can do. -/
theorem readMem_spec {s t : State} {a : Access} {seg : Seg} {off : Word64} {n : Nat} {bs : List Byte}
    (h : readMem s a seg off n = .ok (bs, t)) :
    AfterChecks s t ∧ bs.length = n ∧ ∃ pas, locate s a seg off n = .ok (pas, t) ∧ bs = pas.map s.byte := by
  unfold readMem at h
  obtain ⟨⟨pas, u⟩, h1, h⟩ := bind_ok h
  cases h
  obtain ⟨p, q, -⟩ := locate_spec h1
  exact ⟨p, by simpa using q, pas, h1, by simp only [funext p.byte]⟩

/-- What a write can do. -/
theorem writeMem_spec {s t : State} {a : Access} {seg : Seg} {off : Word64} {bs : List Byte}
    (h : writeMem s a seg off bs = .ok t) :
    ∃ pas u, locate s a seg off bs.length = .ok (pas, u) ∧ AfterChecks s u ∧ pas.length = bs.length ∧
      (∀ x ∈ pas, x < 2 ^ s.cfg.maxPhyAddr) ∧ t = u.storeOwn (pas.zip bs) := by
  unfold writeMem at h
  obtain ⟨⟨pas, u⟩, h1, h⟩ := bind_ok h
  cases h
  obtain ⟨p, q, m⟩ := locate_spec h1
  exact ⟨pas, u, h1, p, q, m, rfl⟩

/-- A located write is done. -/
theorem writeMem_of_locate {s u : State} {a : Access} {seg : Seg} {off : Word64} {bs : List Byte} {pas : List Nat}
    (h : locate s a seg off bs.length = .ok (pas, u)) : writeMem s a seg off bs = .ok (u.storeOwn (pas.zip bs)) := by
  simp only [writeMem, h, ok_bind]; rfl

/-! ### Sources of vector instructions -/

theorem readElems_spec {seg : Seg} {off : Word64} {k : Nat} {act : Nat → Bool} (n : Nat) {s t : State} {j : Nat}
    {bs : List Byte} (h : readElems s seg off k act n j = .ok (bs, t)) : AfterChecks s t ∧ bs.length = n * k := by
  induction n generalizing s j bs with
  | zero => cases h; exact ⟨AfterChecks.refl _, by simp⟩
  | succ n ih =>
    simp only [readElems] at h
    split at h
    · obtain ⟨⟨b1, s1⟩, h1, h⟩ := bind_ok h
      obtain ⟨⟨b2, s2⟩, h2, h⟩ := bind_ok h
      cases h
      obtain ⟨p, q⟩ := ih h2
      refine ⟨(readMem_spec h1).1.trans p, ?_⟩
      rw [List.length_append, (readMem_spec h1).2.1, q, Nat.add_mul]; omega
    · obtain ⟨⟨b1, s1⟩, h1, h⟩ := bind_ok h
      obtain ⟨⟨b2, s2⟩, h2, h⟩ := bind_ok h
      cases h
      cases h1
      obtain ⟨p, q⟩ := ih h2
      refine ⟨p, ?_⟩
      rw [List.length_append, List.length_replicate, q, Nat.add_mul]; omega

/-- Reading elements in two parts is reading them all; what stops the first part stops the whole (60_exceptions.md R614). -/
theorem readElems_add (seg : Seg) (off : Word64) (k : Nat) (act : Nat → Bool) (m n : Nat) (s : State) (j : Nat) :
    readElems s seg off k act (m + n) j = (do
      let (bs, s) ← readElems s seg off k act m j
      let (rest, s) ← readElems s seg off k act n (j + m)
      pure (bs ++ rest, s)) := by
  induction m generalizing s j with
  | zero =>
    simp only [Nat.zero_add, readElems, ok_bind, Nat.add_zero, List.nil_append]
    cases readElems s seg off k act n j <;> rfl
  | succ m ih =>
    have tail : ∀ (b : List Byte) (u : State),
        (do let (rest, v) ← readElems u seg off k act (m + n) (j + 1); pure (b ++ rest, v) : Except Stop _) = (do
          let (bs, v) ← (do let (rest, v) ← readElems u seg off k act m (j + 1); pure (b ++ rest, v))
          let (rest, v) ← readElems v seg off k act n (j + (m + 1))
          pure (bs ++ rest, v)) := by
      intro b u
      rw [ih, show j + 1 + m = j + (m + 1) by omega]
      cases readElems u seg off k act m (j + 1) with
      | error e => rfl
      | ok y =>
        show (do let (rest, v) ← (do let (rest, v) ← readElems y.2 seg off k act n (j + (m + 1)); pure (y.1 ++ rest, v))
                 pure (b ++ rest, v)) = (do
          let (rest, v) ← readElems y.2 seg off k act n (j + (m + 1)); pure (b ++ y.1 ++ rest, v))
        cases readElems y.2 seg off k act n (j + (m + 1)) with
        | error e => rfl
        | ok z => exact congrArg (fun l => Except.ok (l, z.2)) (List.append_assoc b y.1 z.1).symm
    rw [Nat.succ_add]
    simp only [readElems]
    split
    · cases readMem s Access.load seg (off + BitVec.ofNat 64 (j * k)) k with
      | error e => rfl
      | ok x => exact tail x.1 x.2
    · exact tail _ _

/-- What reading the r/m source of a vector instruction can do (60_exceptions.md R614). -/
theorem vecSrc_spec {s t : State} {r : VecRow} {p : Pfx} {b : Bool} {act : Nat → Bool} {rm : Rm} {v : Vec}
    (h : vecSrc s r p b act rm = .ok (v, t)) : AfterChecks s t := by
  cases rm with
  | reg x => simp only [vecSrc] at h; cases h; exact AfterChecks.refl _
  | mem m =>
    simp only [vecSrc, memSrc] at h
    split at h
    · split at h
      · cases h; exact AfterChecks.refl _
      · obtain ⟨⟨bs, u⟩, h1, h⟩ := bind_ok h
        cases h; exact (readMem_spec h1).1
    · split at h
      · obtain ⟨⟨bs, u⟩, h1, h⟩ := bind_ok h
        cases h; exact (readElems_spec _ h1).1
      · obtain ⟨⟨bs, u⟩, h1, h⟩ := bind_ok h
        cases h; exact (readMem_spec h1).1

end Sys2Proof.Machine
end

