-- ==== Sys2Proof/Laws/Frames.lean ====
section
/-! SUPPORT. What each shared course of an instruction does once its checks and its source are settled: its next state,
the destination, and the frame (60_exceptions.md R610, R614, R616). -/

namespace Sys2Proof.Machine

/-! ### Readiness -/

/-- The availability checks pass exactly so (R606, R610 to R613, R627). -/
theorem vecReady_ok {s : State} {r : VecRow} {legal : Bool} :
    vecReady s r legal = .ok () ↔
      legal = true ∧ hasAll s r.cell = true ∧ stateEnabled s r.form = true ∧ bit s.sys.cr0 3 = false := by
  unfold vecReady
  cases legal <;> cases hasAll s r.cell <;> cases stateEnabled s r.form <;> cases bit s.sys.cr0 3 <;> simp

/-- Where they do not, #UD comes before #NM. -/
theorem vecReady_error {s : State} {r : VecRow} {legal : Bool} {e : Stop} (h : vecReady s r legal = .error e) :
    e = .fault .undefinedOpcode ∨ e = .fault (.exception .nm none none) := by
  unfold vecReady at h
  cases h1 : (legal && hasAll s r.cell && stateEnabled s r.form)
  · rw [h1, check_false, error_bind] at h
    cases h; exact .inl rfl
  · rw [h1, check_true, ok_bind] at h
    cases h2 : (!bit s.sys.cr0 3)
    · rw [h2, check_false] at h; cases h; exact .inr rfl
    · rw [h2, check_true] at h; cases h

theorem vecReady_ud {s : State} {r : VecRow} {legal : Bool}
    (h : (legal && hasAll s r.cell && stateEnabled s r.form) = false) :
    vecReady s r legal = .error (.fault .undefinedOpcode) := by
  simp [vecReady, h, raise, errorCode, Fault.undefinedOpcode]

/-- An EVEX row that is available runs on a processor with AVX512F, whose registers have 512 bits (R232; 00_scope.md R8). -/
theorem vecReady_evex {s : State} {r : VecRow} {legal : Bool} (h : vecReady s r legal = .ok ()) (hf : r.form = .evex)
    (v : Vec) : vecCut s.cfg v = v := by
  obtain ⟨-, -, h, -⟩ := vecReady_ok.mp h
  refine vecCut_avx512f ?_ v
  rw [hf] at h
  simp only [stateEnabled, Bool.and_eq_true] at h
  simp_all

/-- The destination of a legacy-SSE form is whole on every processor. -/
theorem vecCut_sseMerge (s : State) (d : VReg) (v : Vec) :
    vecCut s.cfg (sseMerge (s.vec d) v) = sseMerge (s.vec d) v := by
  apply BitVec.eq_of_getLsbD_eq
  intro i _
  have h := maxVl_le s.cfg
  have e := congrArg (fun x => BitVec.getLsbD x i) (State.vecCut_vec s d)
  simp only [getLsbD_vecCut] at e
  rw [getLsbD_vecCut, getLsbD_sseMerge]
  split
  · have : i < maxVl s.cfg := by omega
    simp [this]
  · exact e

/-! ### Frames of the small updates -/

theorem frameVec_setVec {s u : State} (h : AfterChecks s u) (d : VReg) (v : Vec) :
    FrameVec d s (u.setVec d v).complete := by
  refine ⟨fun r hr => ?_, fun r => ?_, fun r => ?_, h.rflags, ⟨h.byte, h.msr, h.tsc, h.monitor, h.keyTable, h.sameSystem⟩,
    h.nextRip⟩
  · rw [State.vec_complete, State.vec_setVec, if_neg hr]
    exact h.vec r
  · simp only [State.gpr64, State.complete_gpr, State.setVec_gpr, h.gpr]
  · simp only [State.opmask, State.complete_k, State.setVec_k, h.k]

theorem frameMask_setOpmask {s u : State} (h : AfterChecks s u) (d : KReg) (v : Word64) :
    FrameMask d s (u.setOpmask d v).complete := by
  refine ⟨fun r => ?_, fun r => ?_, fun r hr => ?_, h.rflags, ⟨h.byte, h.msr, h.tsc, h.monitor, h.keyTable, h.sameSystem⟩,
    h.nextRip⟩
  · rw [State.vec_complete, State.vec_setOpmask]; exact h.vec r
  · simp only [State.gpr64, State.complete_gpr, State.setOpmask_gpr, h.gpr]
  · rw [State.opmask_complete, State.opmask_setOpmask, if_neg hr]
    simp only [State.opmask, h.k]

theorem frameStore_storeOwn {s u : State} (h : AfterChecks s u) (pas : List Nat) (bs : List Byte)
    (hl : pas.length = bs.length) : FrameStore pas s (u.storeOwn (pas.zip bs)).complete := by
  obtain ⟨hm, hmon⟩ := State.storeOwn_spec u (pas.zip bs)
  refine ⟨fun a ha => ?_, fun r => ?_, fun r => ?_, fun r => ?_, ?_, ?_, ?_, ?_, ?_, ?_, ?_⟩
  · simp only [State.byte, State.complete_mem, hm]
    rw [memByte_memSetMany_other _ _ _ (by rw [List.map_fst_zip (by omega)]; exact ha), h.mem]
  · simp only [State.vec, State.complete_zmm, State.complete_cfg, State.storeOwn_zmm, State.storeOwn_cfg, h.zmm, h.cfg]
  · simp only [State.gpr64, State.complete_gpr, State.storeOwn_gpr, h.gpr]
  · simp only [State.opmask, State.complete_k, State.storeOwn_k, h.k]
  · simp [h.rflags]
  · simp [h.msr]
  · simp [h.tsc]
  · rw [State.complete_monitor, ← h.monitor]; exact hmon
  · simp [h.keyTable]
  · exact ⟨by simp [h.cfg], by simp [h.sys], by simp [h.hfi], by simp [h.pt], by simp [h.inputs],
      by simp [h.keyTableLock], by simp only [State.complete_vmx, State.storeOwn_vmx]; exact h.vmx⟩
  · simp [h.nextRip]

/-! ### The courses of the vector instructions -/

/-- An EVEX instruction with a vector destination. -/
theorem runEvex_next {r : VecRow} {op : Vec → Vec → Vec → Vec} {e : Evex} {rm : Rm} {s u : State} {b : Vec}
    (hf : r.form = .evex) (hr : vecReady s r (evexLegal r e rm.isMem) = .ok ()) (hs : vecSrc s r e.pfx e.b (active s e.aaa) rm = .ok (b, u)) :
    ∃ t, runEvex r op e rm s = .next t ∧ FrameVec e.reg s t ∧
      t.vec e.reg = maskMerge r (active s e.aaa) e.z (s.vec e.reg) (op (s.vec e.reg) (s.vec e.vvvv) b) := by
  refine ⟨_, by simp only [runEvex, hr, hs, ok_bind]; rfl, frameVec_setVec (vecSrc_spec hs) _ _, ?_⟩
  rw [State.vec_complete, State.vec_setVec_same, (vecSrc_spec hs).cfg, vecReady_evex hr hf]

/-- A VEX instruction; a result that fits the registers is not cut (`vecCut_of_lt`). -/
theorem runVex_next {r : VecRow} {op : Vec → Vec → Vec} {v : Vex} {rm : Rm} {s u : State} {b : Vec}
    (hr : vecReady s r (!v.pfx.forbidden) = .ok ()) (hs : vecSrc s r v.pfx false (fun _ => true) rm = .ok (b, u)) :
    ∃ t, runVex r op v rm s = .next t ∧ FrameVec (v.reg.setWidth 5) s t ∧
      t.vec (v.reg.setWidth 5) = vecCut s.cfg (op (s.vec (v.vvvv.setWidth 5)) b) := by
  refine ⟨_, by simp only [runVex, hr, hs, ok_bind]; rfl, frameVec_setVec (vecSrc_spec hs) _ _, ?_⟩
  rw [State.vec_complete, State.vec_setVec_same, (vecSrc_spec hs).cfg]

/-- A legacy-SSE instruction. -/
theorem runSse_next {r : VecRow} {op : Vec → Vec → Vec} {p : Pfx} {x : GReg} {rm : Rm} {s u : State} {b : Vec}
    (hr : vecReady s r (!p.forbidden) = .ok ()) (hs : vecSrc s r p false (fun _ => true) rm = .ok (b, u)) :
    ∃ t, runSse r op p x rm s = .next t ∧ FrameVec (x.setWidth 5) s t ∧
      t.vec (x.setWidth 5) = sseMerge (s.vec (x.setWidth 5)) (op (s.vec (x.setWidth 5)) b) := by
  refine ⟨_, by simp only [runSse, hr, hs, ok_bind]; rfl, frameVec_setVec (vecSrc_spec hs) _ _, ?_⟩
  rw [State.vec_complete, State.vec_setVec_same, (vecSrc_spec hs).cfg, vecCut_sseMerge]

/-- VPSHUFBITQMB. -/
theorem runShufBit_next {r : VecRow} {e : Evex} {rm : Rm} {s u : State} {b : Vec}
    (hr : vecReady s r (evexLegal r e rm.isMem) = .ok ()) (hs : vecSrc s r e.pfx e.b (active s e.aaa) rm = .ok (b, u)) :
    ∃ t, runShufBit r e rm s = .next t ∧ FrameMask (e.reg.setWidth 3) s t ∧
      t.opmask (e.reg.setWidth 3) =
        maskFrom (fun n => active s e.aaa n && shufBit (s.vec e.vvvv) b n) r.kl 0 := by
  refine ⟨_, by simp only [runShufBit, hr, hs, ok_bind]; rfl, frameMask_setOpmask (vecSrc_spec hs) _ _, ?_⟩
  simp

/-- A compress to a register. -/
theorem runCompressReg_next {r : VecRow} {e : Evex} {dst : VReg} {s : State} (hf : r.form = .evex)
    (hr : vecReady s r (evexLegal r e false) = .ok ()) :
    ∃ t, runCompressReg r e dst s = .next t ∧ FrameVec dst s t ∧
      t.vec dst = maskMerge r (fun k => decide (k < activeCount r (active s e.aaa))) e.z (s.vec dst)
        (packed r (active s e.aaa) (s.vec e.reg)) := by
  refine ⟨_, by simp only [runCompressReg, hr, ok_bind]; rfl, frameVec_setVec (AfterChecks.refl s) _ _, ?_⟩
  rw [State.vec_complete, State.vec_setVec_same, vecReady_evex hr hf]

/-- An expand from a register. -/
theorem runExpandReg_next {r : VecRow} {e : Evex} {src : VReg} {s : State} (hf : r.form = .evex)
    (hr : vecReady s r (evexLegal r e false) = .ok ()) :
    ∃ t, runExpandReg r e src s = .next t ∧ FrameVec e.reg s t ∧
      t.vec e.reg = maskMerge r (active s e.aaa) e.z (s.vec e.reg) (expanded r (active s e.aaa) (s.vec src)) := by
  refine ⟨_, by simp only [runExpandReg, hr, ok_bind]; rfl, frameVec_setVec (AfterChecks.refl s) _ _, ?_⟩
  rw [State.vec_complete, State.vec_setVec_same, vecReady_evex hr hf]

/-! ### Where an instruction gives a next state -/

/-- A course of checks that gives a next state without a VM exit has passed them. -/
theorem finish_check_next {s t : State} {c : Bool} {e : Exc} {f : Unit → Except Stop State}
    (h : finish (check s c e >>= f) = .next t) : c = true ∧ finish (f ()) = .next t := by
  unfold check at h
  split at h
  · rename_i hc; exact ⟨hc, h⟩
  · cases h

theorem finish_vecReady_next {s t : State} {r : VecRow} {legal : Bool} {f : Unit → Except Stop State}
    (h : finish (vecReady s r legal >>= f) = .next t) : vecReady s r legal = .ok () ∧ finish (f ()) = .next t := by
  cases hr : vecReady s r legal with
  | ok u => exact ⟨rfl, by rw [hr] at h; exact h⟩
  | error e =>
    rw [hr, error_bind] at h
    rcases vecReady_error hr with rfl | rfl <;> cases h

end Sys2Proof.Machine
end

