-- ==== Sys2Proof/Laws/Flat.lean ====
section
/-! SUPPORT. Accesses where linear addresses are physical addresses: 64-bit mode, no paging, no EPT, no alignment check
(20_memory.md R103 to R110). -/

namespace Sys2Proof.Machine

/-- The addresses of `n` bytes from a linear address on. -/
def byteAddrs (la : Word64) (n : Nat) : List Nat := (List.range n).map fun i => (la + BitVec.ofNat 64 i).toNat

@[simp] theorem byteAddrs_length (la : Word64) (n : Nat) : (byteAddrs la n).length = n := by simp [byteAddrs]

theorem byteAddrs_append (la : Word64) (n k : Nat) :
    byteAddrs la (n + k) = byteAddrs la n ++ byteAddrs (la + BitVec.ofNat 64 n) k := by
  simp [byteAddrs, List.range_add, List.map_append, Function.comp_def, BitVec.add_assoc]

/-- Bytes inside one page follow one another without wrapping. -/
theorem chunkBytes_page (la : Word64) (n : Nat) (h : n ≤ 4096 - la.toNat % 4096) :
    chunkBytes la.toNat n = byteAddrs la n := by
  unfold chunkBytes byteAddrs
  apply List.map_congr_left
  intro i hi
  have h1 : i < n := List.mem_range.mp hi
  have h2 := la.isLt
  rw [BitVec.toNat_add, BitVec.toNat_ofNat]
  omega

theorem byteAddrs_nodup (la : Word64) (n : Nat) (h : n ≤ 2 ^ 64) : (byteAddrs la n).Nodup := by
  unfold byteAddrs List.Nodup
  rw [List.pairwise_map]
  refine List.Pairwise.imp_of_mem ?_ (List.nodup_range (n := n))
  intro i j hi hj hne e
  have h1 := List.mem_range.mp hi
  have h2 := List.mem_range.mp hj
  have h3 := BitVec.eq_of_toNat_eq e
  have h4 : BitVec.ofNat 64 i = BitVec.ofNat 64 j := by simpa using h3
  have h5 := congrArg BitVec.toNat h4
  simp only [BitVec.toNat_ofNat] at h5
  omega

/-- Without paging the linear address is the guest-physical address. -/
theorem translate_identity {s : State} (hp : s.paging = none) (k : AccessKind) (la : Word64) :
    translate s k la = .ok (la.toNat, s) := by
  have h : s.pages = none := by unfold State.pages; split <;> [exact hp; rfl]
  simp only [translate, h]

theorem translateAll_identity {s : State} (hp : s.paging = none) (k : AccessKind) (cs : List (Word64 × Nat)) :
    translateAll s k cs = .ok (cs.map fun c => (c.1, c.1.toNat, c.2), s) := by
  induction cs with
  | nil => rfl
  | cons c cs ih =>
    obtain ⟨x, n⟩ := c
    simp only [translateAll, translate_identity hp, ok_bind, ih]
    rfl

/-- Without EPT the second-level check passes. -/
theorem secondLevel_identity {s : State} (he : s.eptOn = false) (k : AccessKind)
    (weak crosses : Bool) (la : Word64) (gpa n : Nat) :
    secondLevel s k weak crosses la gpa n = .ok (s.physical gpa, s) := by
  simp only [secondLevel, he, Bool.false_eq_true, if_false]

theorem physical_chunk (s : State) (gpa n : Nat) :
    (chunkBytes (s.physical gpa) n).map s.physical = (chunkBytes gpa n).map s.physical := by
  simp [chunkBytes, State.physical, Function.comp_def]

theorem eptAll_identity {s : State} (he : s.eptOn = false) (k : AccessKind)
    (weak : Bool) (ts : List (Word64 × Nat × Nat)) (hl : ts.length ≤ 2) :
    eptAll s k weak ts = .ok ((ts.map fun c => (chunkBytes c.2.1 c.2.2).map s.physical).flatten, s) := by
  match ts, hl with
  | [], _ => rfl
  | [(la, gpa, n)], _ =>
    simp only [eptAll, secondLevel_identity he, ok_bind, physical_chunk]
    simp; rfl
  | [(la, gpa, n), (la', gpa', n')], _ =>
    simp only [eptAll, he, Bool.false_and, Bool.false_eq_true, if_false, secondLevel_identity he, ok_bind,
      List.map_append, physical_chunk]
    simp; rfl

/-- Where linear addresses are physical ones, an access of canonical addresses passes every check. -/
theorem locate_flat {s : State} {a : Access} {seg : Seg} {off : Word64} {n : Nat} (hf : s.Flat)
    (hc : CanonicalRange s (linearAddress s seg off) n) (ha : (linearAddress s seg off).toNat % a.gpAlign = 0)
    (hk : a.locked = false) (hn : n ≤ 4096) :
    locate s a seg off n = .ok ((byteAddrs (linearAddress s seg off) n).map s.physical, s) := by
  obtain ⟨hm, hp, he, hq⟩ := hf
  have h64 : s.is64 = true := by simp [State.is64, hm]
  have hform : formFault s a seg off n = none := by
    unfold formFault
    simp only [hm]
    rw [if_pos]
    simpa [List.all_eq_true, CanonicalRange] using hc
  unfold locate
  simp only [hform, ha, hk, hq, decide_true, check_true, ok_bind, Bool.not_false, Bool.true_or, Bool.false_and]
  generalize linearAddress s seg off = la
  rw [translateAll_identity hp, ok_bind,
    eptAll_identity he _ _ _ (by rw [List.length_map]; exact pageChunks_length _ _ _)]
  congr 2
  unfold pageChunks
  dsimp only
  split
  · simp_all [byteAddrs]
  · split
    · rename_i h
      simp [chunkBytes_page la n h]
    · rename_i h0 h
      have hroom : 4096 - la.toNat % 4096 ≤ n := by omega
      simp only [List.map_cons, List.map_nil, List.flatten_cons, List.flatten_nil, List.append_nil, advance, h64,
        if_true]
      rw [chunkBytes_page la _ (Nat.le_refl _), chunkBytes_page]
      · rw [← List.map_append, ← byteAddrs_append]
        congr 2
        omega
      · rw [BitVec.toNat_add, BitVec.toNat_ofNat]
        have := la.isLt
        omega

/-- A read of canonical addresses. -/
theorem readMem_flat {s : State} {a : Access} {seg : Seg} {off : Word64} {n : Nat} (hf : s.Flat)
    (hc : CanonicalRange s (linearAddress s seg off) n) (ha : (linearAddress s seg off).toNat % a.gpAlign = 0)
    (hk : a.locked = false) (hn : n ≤ 4096) :
    readMem s a seg off n = .ok (((byteAddrs (linearAddress s seg off) n).map s.physical).map s.byte, s) := by
  simp only [readMem, locate_flat hf hc ha hk hn, ok_bind]
  rfl

/-- A write of canonical addresses. -/
theorem writeMem_flat {s : State} {a : Access} {seg : Seg} {off : Word64} {bs : List Byte} (hf : s.Flat)
    (hc : CanonicalRange s (linearAddress s seg off) bs.length)
    (ha : (linearAddress s seg off).toNat % a.gpAlign = 0) (hk : a.locked = false) (hn : bs.length ≤ 4096) :
    writeMem s a seg off bs =
      .ok (s.storeOwn (((byteAddrs (linearAddress s seg off) bs.length).map s.physical).zip bs)) :=
  writeMem_of_locate (locate_flat hf hc ha hk hn)

end Sys2Proof.Machine
end

