-- ==== Sys2Proof/Laws/KeyTable.lean ====
section
/-! SUPPORT. The laws of the MKTME key table (10_state.md R66): a read after a write of an entry, and that a write keeps
its canonical form. -/

namespace Sys2Proof.Machine

theorem keySlot_nil (x : Nat) : keySlot [] x = KeySlot.initial := rfl

theorem keySlot_cons (e : Nat × KeySlot) (t : List (Nat × KeySlot)) (x : Nat) :
    keySlot (e :: t) x = if e.1 = x then e.2 else keySlot t x := by
  unfold keySlot
  rw [List.find?_cons]
  by_cases h : e.1 = x
  · simp [h]
  · simp [h, beq_false_of_ne h]

theorem keySlot_filter (t : List (Nat × KeySlot)) (a x : Nat) :
    keySlot (t.filter fun e => e.1 != a) x = if x = a then KeySlot.initial else keySlot t x := by
  induction t with
  | nil => simp [keySlot_nil]
  | cons e t ih =>
    by_cases h : e.1 = a
    · rw [List.filter_cons_of_neg (by simp [h]), ih, keySlot_cons]
      by_cases hx : x = a
      · simp [hx]
      · have : ¬ e.1 = x := by rw [h]; exact fun e => hx e.symm
        simp [hx, this]
    · rw [List.filter_cons_of_pos (by simp [h]), keySlot_cons, ih, keySlot_cons]
      by_cases hx : e.1 = x
      · subst hx; simp [h]
      · simp [hx]

theorem keySlot_keyInsert (t : List (Nat × KeySlot)) (i : Nat) (k : KeySlot) (x : Nat) (h : ∀ e ∈ t, e.1 ≠ i) :
    keySlot (keyInsert t i k) x = if x = i then k else keySlot t x := by
  induction t with
  | nil => rw [keyInsert, keySlot_cons]; by_cases hx : i = x <;> simp [hx, eq_comm]
  | cons e t ih =>
    obtain ⟨j, c⟩ := e
    have hj : j ≠ i := h (j, c) (by simp)
    simp only [keyInsert]
    split
    · rw [keySlot_cons]; by_cases hx : i = x <;> simp [hx, eq_comm]
    · rw [keySlot_cons, keySlot_cons, ih fun e he => h e (by simp [he])]
      by_cases hx : j = x
      · subst hx; simp [hj]
      · simp [hx]

theorem keyFilter_not_listed (t : List (Nat × KeySlot)) (i : Nat) : ∀ e ∈ t.filter (fun e => e.1 != i), e.1 ≠ i := by
  intro e he
  simpa using (List.mem_filter.mp he).2

/-- A read after a write of an entry. -/
theorem keySlot_setKeySlot (t : List (Nat × KeySlot)) (i : Nat) (k : KeySlot) (x : Nat) :
    keySlot (setKeySlot t i k) x = if x = i then k else keySlot t x := by
  unfold setKeySlot
  dsimp only
  split
  · rename_i h; rw [keySlot_filter, h]
  · rw [keySlot_keyInsert _ _ _ _ (keyFilter_not_listed t i), keySlot_filter]
    by_cases hx : x = i <;> simp [hx]

theorem mem_keyInsert (t : List (Nat × KeySlot)) (i : Nat) (k : KeySlot) (e : Nat × KeySlot)
    (h : e ∈ keyInsert t i k) : e = (i, k) ∨ e ∈ t := by
  induction t with
  | nil => simpa [keyInsert] using h
  | cons d t ih =>
    obtain ⟨j, c⟩ := d
    simp only [keyInsert] at h
    split at h
    · simpa using h
    · rcases List.mem_cons.mp h with q | q
      · exact .inr (by simp [q])
      · rcases ih q with q | q
        · exact .inl q
        · exact .inr (by simp [q])

theorem keyInsert_wf (t : List (Nat × KeySlot)) (i : Nat) (k : KeySlot) (h : KeyTable.wf t) (hi : 0 < i)
    (hb : i < 65536) (hk : k ≠ KeySlot.initial) (hn : ∀ e ∈ t, e.1 ≠ i) : KeyTable.wf (keyInsert t i k) := by
  induction t with
  | nil => exact ⟨by simp [keyInsert], by simp [keyInsert, hi, hb, hk]⟩
  | cons d t ih =>
    obtain ⟨j, c⟩ := d
    have hj : j ≠ i := hn (j, c) (by simp)
    obtain ⟨hp, hv⟩ := h
    rw [List.pairwise_cons] at hp
    simp only [keyInsert]
    split
    · rename_i hlt
      refine ⟨List.pairwise_cons.mpr ⟨?_, List.pairwise_cons.mpr hp⟩, ?_⟩
      · intro e he
        rcases List.mem_cons.mp he with q | q
        · simpa [q] using hlt
        · exact Nat.lt_trans hlt (hp.1 e q)
      · intro e he
        rcases List.mem_cons.mp he with q | q
        · subst q; exact ⟨hi, hb, hk⟩
        · exact hv e q
    · obtain ⟨ip, iv⟩ := ih ⟨hp.2, fun e he => hv e (by simp [he])⟩ fun e he => hn e (by simp [he])
      refine ⟨List.pairwise_cons.mpr ⟨?_, ip⟩, ?_⟩
      · intro e he
        rcases mem_keyInsert t i k e he with q | q
        · subst q; show j < i; omega
        · exact hp.1 e q
      · intro e he
        rcases List.mem_cons.mp he with q | q
        · exact hv e (by simp [q])
        · exact iv e q

/-- A write of an entry keeps the canonical form. -/
theorem setKeySlot_wf (t : List (Nat × KeySlot)) (i : Nat) (k : KeySlot) (h : KeyTable.wf t) (hi : 0 < i)
    (hb : i < 65536) : KeyTable.wf (setKeySlot t i k) := by
  have hf : KeyTable.wf (t.filter fun e => e.1 != i) :=
    ⟨h.1.sublist List.filter_sublist, fun e he => h.2 e (List.mem_filter.mp he).1⟩
  unfold setKeySlot
  dsimp only
  split
  · exact hf
  · rename_i hk; exact keyInsert_wf _ i k hf hi hb hk (keyFilter_not_listed t i)

/-- What another processor's PCONFIG does: at most the entry it programs (10_state.md R66; 44_pconfig.md R367). -/
theorem keyProgramByOther_spec (s : State) (id : Nat) (k : KeySlot) :
    ∃ t, keyProgramByOther s id k = { s with keyTable := t } ∧
      ∀ x, keySlot t x =
        if x = id ∧ keyProgrammable s id then (keySlot s.keyTable id).programmed k else keySlot s.keyTable x := by
  unfold keyProgramByOther
  split
  · rename_i h
    exact ⟨_, rfl, fun x => by rw [keySlot_setKeySlot]; simp [h]⟩
  · rename_i h
    exact ⟨s.keyTable, rfl, fun x => by simp [h]⟩

theorem keyProgramByOther_wf {s : State} {id : Nat} {k : KeySlot} (h : KeyTable.wf s.keyTable) :
    KeyTable.wf (keyProgramByOther s id k).keyTable := by
  unfold keyProgramByOther
  split
  · rename_i hp
    simp only [keyProgrammable, Bool.and_eq_true, decide_eq_true_eq] at hp
    exact setKeySlot_wf _ _ _ h (by omega) (by omega)
  · exact h

end Sys2Proof.Machine
end

