-- ==== Sys2Proof/Laws/PerInstr.lean ====
section
/-! SUPPORT. Per instruction: the row the decoder selects from the fields of an instruction's encoding is that
instruction's (30_encoding.md R204), one lemma per constructor. -/

namespace Sys2Proof.Laws.RowSelected

/-- The fields of an instruction's encoding select its own row, and the row gives its fields back. -/
def Statement (i : Instr) : Prop := build (view i) = .instr i

theorem low4 (r : GReg) : (r.setWidth 5).setWidth 4 = r := by
  apply BitVec.eq_of_toNat_eq
  have := r.isLt
  simp

theorem cpuid (p : Pfx) : Statement (.cpuid p) := rfl
theorem cldemote (p : Pfx) (m : Mem) : Statement (.cldemote p m) := rfl
theorem movdiri32 (p : Pfx) (r : GReg) (m : Mem) : Statement (.movdiri32 p r m) := rfl
theorem movdiri64 (p : Pfx) (r : GReg) (m : Mem) : Statement (.movdiri64 p r m) := rfl
theorem movdir64b (p : Pfx) (r : GReg) (m : Mem) : Statement (.movdir64b p r m) := rfl
theorem wbnoinvd (p : Pfx) : Statement (.wbnoinvd p) := rfl
theorem pconfig (p : Pfx) : Statement (.pconfig p) := rfl
theorem tpause (p : Pfx) (r : GReg) : Statement (.tpause p r) := by
  simp only [Statement, view, build, buildLegacy]
  exact congrArg (fun x => Built.instr (.tpause p x)) (low4 r)
theorem umonitor (p : Pfx) (r : GReg) : Statement (.umonitor p r) := by
  simp only [Statement, view, build, buildLegacy]
  exact congrArg (fun x => Built.instr (.umonitor p x)) (low4 r)
theorem umwait (p : Pfx) (r : GReg) : Statement (.umwait p r) := by
  simp only [Statement, view, build, buildLegacy]
  exact congrArg (fun x => Built.instr (.umwait p x)) (low4 r)
theorem gf2p8affineqb (p : Pfx) (r : GReg) (rm : Rm) (imm : Byte) : Statement (.gf2p8affineqb p r rm imm) := rfl
theorem vgf2p8affineqbVex128 (v : Vex) (rm : Rm) (imm : Byte) : Statement (.vgf2p8affineqbVex128 v rm imm) := rfl
theorem vgf2p8affineqbVex256 (v : Vex) (rm : Rm) (imm : Byte) : Statement (.vgf2p8affineqbVex256 v rm imm) := rfl
theorem vgf2p8affineqb128 (e : Evex) (rm : Rm) (imm : Byte) : Statement (.vgf2p8affineqb128 e rm imm) := rfl
theorem vgf2p8affineqb256 (e : Evex) (rm : Rm) (imm : Byte) : Statement (.vgf2p8affineqb256 e rm imm) := rfl
theorem vgf2p8affineqb512 (e : Evex) (rm : Rm) (imm : Byte) : Statement (.vgf2p8affineqb512 e rm imm) := rfl
theorem gf2p8affineinvqb (p : Pfx) (r : GReg) (rm : Rm) (imm : Byte) : Statement (.gf2p8affineinvqb p r rm imm) := rfl
theorem vgf2p8affineinvqbVex128 (v : Vex) (rm : Rm) (imm : Byte) : Statement (.vgf2p8affineinvqbVex128 v rm imm) := rfl
theorem vgf2p8affineinvqbVex256 (v : Vex) (rm : Rm) (imm : Byte) : Statement (.vgf2p8affineinvqbVex256 v rm imm) := rfl
theorem vgf2p8affineinvqb128 (e : Evex) (rm : Rm) (imm : Byte) : Statement (.vgf2p8affineinvqb128 e rm imm) := rfl
theorem vgf2p8affineinvqb256 (e : Evex) (rm : Rm) (imm : Byte) : Statement (.vgf2p8affineinvqb256 e rm imm) := rfl
theorem vgf2p8affineinvqb512 (e : Evex) (rm : Rm) (imm : Byte) : Statement (.vgf2p8affineinvqb512 e rm imm) := rfl
theorem gf2p8mulb (p : Pfx) (r : GReg) (rm : Rm) : Statement (.gf2p8mulb p r rm) := rfl
theorem vgf2p8mulbVex128 (v : Vex) (rm : Rm) : Statement (.vgf2p8mulbVex128 v rm) := rfl
theorem vgf2p8mulbVex256 (v : Vex) (rm : Rm) : Statement (.vgf2p8mulbVex256 v rm) := rfl
theorem vgf2p8mulb128 (e : Evex) (rm : Rm) : Statement (.vgf2p8mulb128 e rm) := rfl
theorem vgf2p8mulb256 (e : Evex) (rm : Rm) : Statement (.vgf2p8mulb256 e rm) := rfl
theorem vgf2p8mulb512 (e : Evex) (rm : Rm) : Statement (.vgf2p8mulb512 e rm) := rfl
theorem vaesdecVex256 (v : Vex) (rm : Rm) : Statement (.vaesdecVex256 v rm) := rfl
theorem vaesdec128 (e : Evex) (rm : Rm) : Statement (.vaesdec128 e rm) := rfl
theorem vaesdec256 (e : Evex) (rm : Rm) : Statement (.vaesdec256 e rm) := rfl
theorem vaesdec512 (e : Evex) (rm : Rm) : Statement (.vaesdec512 e rm) := rfl
theorem vaesdeclastVex256 (v : Vex) (rm : Rm) : Statement (.vaesdeclastVex256 v rm) := rfl
theorem vaesdeclast128 (e : Evex) (rm : Rm) : Statement (.vaesdeclast128 e rm) := rfl
theorem vaesdeclast256 (e : Evex) (rm : Rm) : Statement (.vaesdeclast256 e rm) := rfl
theorem vaesdeclast512 (e : Evex) (rm : Rm) : Statement (.vaesdeclast512 e rm) := rfl
theorem vaesencVex256 (v : Vex) (rm : Rm) : Statement (.vaesencVex256 v rm) := rfl
theorem vaesenc128 (e : Evex) (rm : Rm) : Statement (.vaesenc128 e rm) := rfl
theorem vaesenc256 (e : Evex) (rm : Rm) : Statement (.vaesenc256 e rm) := rfl
theorem vaesenc512 (e : Evex) (rm : Rm) : Statement (.vaesenc512 e rm) := rfl
theorem vaesenclastVex256 (v : Vex) (rm : Rm) : Statement (.vaesenclastVex256 v rm) := rfl
theorem vaesenclast128 (e : Evex) (rm : Rm) : Statement (.vaesenclast128 e rm) := rfl
theorem vaesenclast256 (e : Evex) (rm : Rm) : Statement (.vaesenclast256 e rm) := rfl
theorem vaesenclast512 (e : Evex) (rm : Rm) : Statement (.vaesenclast512 e rm) := rfl
theorem vpclmulqdqVex256 (v : Vex) (rm : Rm) (imm : Byte) : Statement (.vpclmulqdqVex256 v rm imm) := rfl
theorem vpclmulqdq128 (e : Evex) (rm : Rm) (imm : Byte) : Statement (.vpclmulqdq128 e rm imm) := rfl
theorem vpclmulqdq256 (e : Evex) (rm : Rm) (imm : Byte) : Statement (.vpclmulqdq256 e rm imm) := rfl
theorem vpclmulqdq512 (e : Evex) (rm : Rm) (imm : Byte) : Statement (.vpclmulqdq512 e rm imm) := rfl
theorem vpcompressbMem128 (e : Evex) (m : Mem) : Statement (.vpcompressbMem128 e m) := rfl
theorem vpcompressbReg128 (e : Evex) (r : VReg) : Statement (.vpcompressbReg128 e r) := rfl
theorem vpcompressbMem256 (e : Evex) (m : Mem) : Statement (.vpcompressbMem256 e m) := rfl
theorem vpcompressbReg256 (e : Evex) (r : VReg) : Statement (.vpcompressbReg256 e r) := rfl
theorem vpcompressbMem512 (e : Evex) (m : Mem) : Statement (.vpcompressbMem512 e m) := rfl
theorem vpcompressbReg512 (e : Evex) (r : VReg) : Statement (.vpcompressbReg512 e r) := rfl
theorem vpcompresswMem128 (e : Evex) (m : Mem) : Statement (.vpcompresswMem128 e m) := rfl
theorem vpcompresswReg128 (e : Evex) (r : VReg) : Statement (.vpcompresswReg128 e r) := rfl
theorem vpcompresswMem256 (e : Evex) (m : Mem) : Statement (.vpcompresswMem256 e m) := rfl
theorem vpcompresswReg256 (e : Evex) (r : VReg) : Statement (.vpcompresswReg256 e r) := rfl
theorem vpcompresswMem512 (e : Evex) (m : Mem) : Statement (.vpcompresswMem512 e m) := rfl
theorem vpcompresswReg512 (e : Evex) (r : VReg) : Statement (.vpcompresswReg512 e r) := rfl
theorem vpexpandbMem128 (e : Evex) (m : Mem) : Statement (.vpexpandbMem128 e m) := rfl
theorem vpexpandbReg128 (e : Evex) (r : VReg) : Statement (.vpexpandbReg128 e r) := rfl
theorem vpexpandbMem256 (e : Evex) (m : Mem) : Statement (.vpexpandbMem256 e m) := rfl
theorem vpexpandbReg256 (e : Evex) (r : VReg) : Statement (.vpexpandbReg256 e r) := rfl
theorem vpexpandbMem512 (e : Evex) (m : Mem) : Statement (.vpexpandbMem512 e m) := rfl
theorem vpexpandbReg512 (e : Evex) (r : VReg) : Statement (.vpexpandbReg512 e r) := rfl
theorem vpexpandwMem128 (e : Evex) (m : Mem) : Statement (.vpexpandwMem128 e m) := rfl
theorem vpexpandwReg128 (e : Evex) (r : VReg) : Statement (.vpexpandwReg128 e r) := rfl
theorem vpexpandwMem256 (e : Evex) (m : Mem) : Statement (.vpexpandwMem256 e m) := rfl
theorem vpexpandwReg256 (e : Evex) (r : VReg) : Statement (.vpexpandwReg256 e r) := rfl
theorem vpexpandwMem512 (e : Evex) (m : Mem) : Statement (.vpexpandwMem512 e m) := rfl
theorem vpexpandwReg512 (e : Evex) (r : VReg) : Statement (.vpexpandwReg512 e r) := rfl
theorem vpshldw128 (e : Evex) (rm : Rm) (imm : Byte) : Statement (.vpshldw128 e rm imm) := rfl
theorem vpshldw256 (e : Evex) (rm : Rm) (imm : Byte) : Statement (.vpshldw256 e rm imm) := rfl
theorem vpshldw512 (e : Evex) (rm : Rm) (imm : Byte) : Statement (.vpshldw512 e rm imm) := rfl
theorem vpshldd128 (e : Evex) (rm : Rm) (imm : Byte) : Statement (.vpshldd128 e rm imm) := rfl
theorem vpshldd256 (e : Evex) (rm : Rm) (imm : Byte) : Statement (.vpshldd256 e rm imm) := rfl
theorem vpshldd512 (e : Evex) (rm : Rm) (imm : Byte) : Statement (.vpshldd512 e rm imm) := rfl
theorem vpshldq128 (e : Evex) (rm : Rm) (imm : Byte) : Statement (.vpshldq128 e rm imm) := rfl
theorem vpshldq256 (e : Evex) (rm : Rm) (imm : Byte) : Statement (.vpshldq256 e rm imm) := rfl
theorem vpshldq512 (e : Evex) (rm : Rm) (imm : Byte) : Statement (.vpshldq512 e rm imm) := rfl
theorem vpshldvw128 (e : Evex) (rm : Rm) : Statement (.vpshldvw128 e rm) := rfl
theorem vpshldvw256 (e : Evex) (rm : Rm) : Statement (.vpshldvw256 e rm) := rfl
theorem vpshldvw512 (e : Evex) (rm : Rm) : Statement (.vpshldvw512 e rm) := rfl
theorem vpshldvd128 (e : Evex) (rm : Rm) : Statement (.vpshldvd128 e rm) := rfl
theorem vpshldvd256 (e : Evex) (rm : Rm) : Statement (.vpshldvd256 e rm) := rfl
theorem vpshldvd512 (e : Evex) (rm : Rm) : Statement (.vpshldvd512 e rm) := rfl
theorem vpshldvq128 (e : Evex) (rm : Rm) : Statement (.vpshldvq128 e rm) := rfl
theorem vpshldvq256 (e : Evex) (rm : Rm) : Statement (.vpshldvq256 e rm) := rfl
theorem vpshldvq512 (e : Evex) (rm : Rm) : Statement (.vpshldvq512 e rm) := rfl
theorem vpshrdw128 (e : Evex) (rm : Rm) (imm : Byte) : Statement (.vpshrdw128 e rm imm) := rfl
theorem vpshrdw256 (e : Evex) (rm : Rm) (imm : Byte) : Statement (.vpshrdw256 e rm imm) := rfl
theorem vpshrdw512 (e : Evex) (rm : Rm) (imm : Byte) : Statement (.vpshrdw512 e rm imm) := rfl
theorem vpshrdd128 (e : Evex) (rm : Rm) (imm : Byte) : Statement (.vpshrdd128 e rm imm) := rfl
theorem vpshrdd256 (e : Evex) (rm : Rm) (imm : Byte) : Statement (.vpshrdd256 e rm imm) := rfl
theorem vpshrdd512 (e : Evex) (rm : Rm) (imm : Byte) : Statement (.vpshrdd512 e rm imm) := rfl
theorem vpshrdq128 (e : Evex) (rm : Rm) (imm : Byte) : Statement (.vpshrdq128 e rm imm) := rfl
theorem vpshrdq256 (e : Evex) (rm : Rm) (imm : Byte) : Statement (.vpshrdq256 e rm imm) := rfl
theorem vpshrdq512 (e : Evex) (rm : Rm) (imm : Byte) : Statement (.vpshrdq512 e rm imm) := rfl
theorem vpshrdvw128 (e : Evex) (rm : Rm) : Statement (.vpshrdvw128 e rm) := rfl
theorem vpshrdvw256 (e : Evex) (rm : Rm) : Statement (.vpshrdvw256 e rm) := rfl
theorem vpshrdvw512 (e : Evex) (rm : Rm) : Statement (.vpshrdvw512 e rm) := rfl
theorem vpshrdvd128 (e : Evex) (rm : Rm) : Statement (.vpshrdvd128 e rm) := rfl
theorem vpshrdvd256 (e : Evex) (rm : Rm) : Statement (.vpshrdvd256 e rm) := rfl
theorem vpshrdvd512 (e : Evex) (rm : Rm) : Statement (.vpshrdvd512 e rm) := rfl
theorem vpshrdvq128 (e : Evex) (rm : Rm) : Statement (.vpshrdvq128 e rm) := rfl
theorem vpshrdvq256 (e : Evex) (rm : Rm) : Statement (.vpshrdvq256 e rm) := rfl
theorem vpshrdvq512 (e : Evex) (rm : Rm) : Statement (.vpshrdvq512 e rm) := rfl
theorem vpdpbusd128 (e : Evex) (rm : Rm) : Statement (.vpdpbusd128 e rm) := rfl
theorem vpdpbusd256 (e : Evex) (rm : Rm) : Statement (.vpdpbusd256 e rm) := rfl
theorem vpdpbusd512 (e : Evex) (rm : Rm) : Statement (.vpdpbusd512 e rm) := rfl
theorem vpdpbusds128 (e : Evex) (rm : Rm) : Statement (.vpdpbusds128 e rm) := rfl
theorem vpdpbusds256 (e : Evex) (rm : Rm) : Statement (.vpdpbusds256 e rm) := rfl
theorem vpdpbusds512 (e : Evex) (rm : Rm) : Statement (.vpdpbusds512 e rm) := rfl
theorem vpdpwssd128 (e : Evex) (rm : Rm) : Statement (.vpdpwssd128 e rm) := rfl
theorem vpdpwssd256 (e : Evex) (rm : Rm) : Statement (.vpdpwssd256 e rm) := rfl
theorem vpdpwssd512 (e : Evex) (rm : Rm) : Statement (.vpdpwssd512 e rm) := rfl
theorem vpdpwssds128 (e : Evex) (rm : Rm) : Statement (.vpdpwssds128 e rm) := rfl
theorem vpdpwssds256 (e : Evex) (rm : Rm) : Statement (.vpdpwssds256 e rm) := rfl
theorem vpdpwssds512 (e : Evex) (rm : Rm) : Statement (.vpdpwssds512 e rm) := rfl
theorem vpopcntb128 (e : Evex) (rm : Rm) : Statement (.vpopcntb128 e rm) := rfl
theorem vpopcntb256 (e : Evex) (rm : Rm) : Statement (.vpopcntb256 e rm) := rfl
theorem vpopcntb512 (e : Evex) (rm : Rm) : Statement (.vpopcntb512 e rm) := rfl
theorem vpopcntw128 (e : Evex) (rm : Rm) : Statement (.vpopcntw128 e rm) := rfl
theorem vpopcntw256 (e : Evex) (rm : Rm) : Statement (.vpopcntw256 e rm) := rfl
theorem vpopcntw512 (e : Evex) (rm : Rm) : Statement (.vpopcntw512 e rm) := rfl
theorem vpopcntd128 (e : Evex) (rm : Rm) : Statement (.vpopcntd128 e rm) := rfl
theorem vpopcntd256 (e : Evex) (rm : Rm) : Statement (.vpopcntd256 e rm) := rfl
theorem vpopcntd512 (e : Evex) (rm : Rm) : Statement (.vpopcntd512 e rm) := rfl
theorem vpopcntq128 (e : Evex) (rm : Rm) : Statement (.vpopcntq128 e rm) := rfl
theorem vpopcntq256 (e : Evex) (rm : Rm) : Statement (.vpopcntq256 e rm) := rfl
theorem vpopcntq512 (e : Evex) (rm : Rm) : Statement (.vpopcntq512 e rm) := rfl
theorem vpshufbitqmb128 (e : Evex) (rm : Rm) : Statement (.vpshufbitqmb128 e rm) := rfl
theorem vpshufbitqmb256 (e : Evex) (rm : Rm) : Statement (.vpshufbitqmb256 e rm) := rfl
theorem vpshufbitqmb512 (e : Evex) (rm : Rm) : Statement (.vpshufbitqmb512 e rm) := rfl

end Sys2Proof.Laws.RowSelected
end

