-- ==== Sys2Proof/Tests/Slice0.lean ====
section
/-! SUPPORT. Tests: bytes written out from the spec's encodings, vectors of the spec (95_test_vectors.md and the rules it
indexes), ill-formed terms, and for every statement with hypotheses operands that meet them. -/

namespace Sys2Proof.Tests

open Sys2Proof Sys2Proof.Machine

set_option maxRecDepth 100000
set_option exponentiation.threshold 600

/-! ## Decoding -/

/-- The fields of an EVEX prefix without reserved bits set. -/
def ev (reg vvvv aaa : Nat) (z b : Bool) : Evex :=
  { pfx := Pfx.none, p0res := 0#2, p1one := true, reg := BitVec.ofNat 5 reg, vvvv := BitVec.ofNat 5 vvvv
    aaa := BitVec.ofNat 3 aaa, z := z, b := b }

/-- The fields of a VEX prefix. -/
def vx (reg vvvv : Nat) : Vex := { pfx := Pfx.none, reg := BitVec.ofNat 4 reg, vvvv := BitVec.ofNat 4 vvvv }

/-- The bytes decode to the instruction, which is well formed, and encode from it. -/
def agree (l : List (List Byte × Instr)) : Bool :=
  l.all fun p => decide (decode .long p.1 = .instr p.2 p.1.length) && p.2.wellFormed .long && decide (encode p.2 = p.1)

/-- The rows that are not vector instructions (40 R220, 42 R320, R325, R330, R333, 44 R360, 45 R380). -/
theorem test_decode_plain : agree [
  ([0x0F#8, 0xA2#8], .cpuid Pfx.none),
  ([0x0F#8, 0x1C#8, 0x06#8], .cldemote Pfx.none (.base 6#4 .none)),
  ([0x0F#8, 0x38#8, 0xF9#8, 0x08#8], .movdiri32 Pfx.none 1#4 (.base 0#4 .none)),
  ([0x48#8, 0x0F#8, 0x38#8, 0xF9#8, 0x0F#8], .movdiri64 Pfx.none 1#4 (.base 7#4 .none)),
  ([0x66#8, 0x0F#8, 0x38#8, 0xF8#8, 0x06#8], .movdir64b Pfx.none 0#4 (.base 6#4 .none)),
  ([0xF3#8, 0x0F#8, 0x09#8], .wbnoinvd Pfx.none),
  ([0x0F#8, 0x01#8, 0xC5#8], .pconfig Pfx.none),
  ([0x66#8, 0x0F#8, 0xAE#8, 0xF1#8], .tpause Pfx.none 1#4),
  ([0xF3#8, 0x0F#8, 0xAE#8, 0xF0#8], .umonitor Pfx.none 0#4),
  ([0xF2#8, 0x0F#8, 0xAE#8, 0xF1#8], .umwait Pfx.none 1#4)] = true := by decide

/-- Every row of this family, its bytes written out from its opcode row and 30_encoding.md R166, R170, R173. -/
theorem test_decode_gfni : agree [
  ([0x66#8, 0x44#8, 0x0F#8, 0x3A#8, 0xCE#8, 0xD4#8, 0xCA#8], .gf2p8affineqb Pfx.none 10#4 (.reg 4#5) 202#8),
  ([0xC4#8, 0xC3#8, 0xE9#8, 0xCE#8, 0x0A#8, 0x30#8], .vgf2p8affineqbVex128 (vx 1 2) (.mem (.base 10#4 .none)) 48#8),
  ([0xC4#8, 0x63#8, 0xF5#8, 0xCE#8, 0xDE#8, 0x13#8], .vgf2p8affineqbVex256 (vx 11 1) (.reg 6#5) 19#8),
  ([0x62#8, 0xF3#8, 0xA5#8, 0x13#8, 0xCE#8, 0x6F#8, 0x23#8, 0x1E#8], .vgf2p8affineqb128 (ev 5 27 3 false true) (.mem (.base 7#4 (.d8 35#8))) 30#8),
  ([0x62#8, 0xF3#8, 0x8D#8, 0x2E#8, 0xCE#8, 0xFB#8, 0x71#8], .vgf2p8affineqb256 (ev 7 14 6 false false) (.reg 3#5) 113#8),
  ([0x62#8, 0xD3#8, 0xBD#8, 0x4C#8, 0xCE#8, 0x94#8, 0x79#8, 0xEC#8, 0x63#8, 0x6A#8, 0x8A#8, 0x60#8], .vgf2p8affineqb512 (ev 2 8 4 false false) (.mem (.sib (some 9#4) 7#4 1#2 (.d32 0x8A6A63EC#32))) 96#8),
  ([0x66#8, 0x44#8, 0x0F#8, 0x3A#8, 0xCF#8, 0xDB#8, 0x20#8], .gf2p8affineinvqb Pfx.none 11#4 (.reg 3#5) 32#8),
  ([0xC4#8, 0xE3#8, 0xC9#8, 0xCF#8, 0x0D#8, 0x62#8, 0xD1#8, 0x1E#8, 0x88#8, 0xA0#8], .vgf2p8affineinvqbVex128 (vx 1 6) (.mem (.ripRel 0x881ED162#32)) 160#8),
  ([0xC4#8, 0x43#8, 0x8D#8, 0xCF#8, 0xF3#8, 0x99#8], .vgf2p8affineinvqbVex256 (vx 14 14) (.reg 11#5) 153#8),
  ([0x62#8, 0x53#8, 0xA5#8, 0x1B#8, 0xCF#8, 0x3F#8, 0xFD#8], .vgf2p8affineinvqb128 (ev 15 11 3 false true) (.mem (.base 15#4 .none)) 253#8),
  ([0x62#8, 0xA3#8, 0x9D#8, 0x21#8, 0xCF#8, 0xEA#8, 0xD6#8], .vgf2p8affineinvqb256 (ev 21 28 1 false false) (.reg 18#5) 214#8),
  ([0x62#8, 0x73#8, 0xD5#8, 0x46#8, 0xCF#8, 0x52#8, 0xFA#8, 0xA0#8], .vgf2p8affineinvqb512 (ev 10 21 6 false false) (.mem (.base 2#4 (.d8 250#8))) 160#8),
  ([0x66#8, 0x45#8, 0x0F#8, 0x38#8, 0xCF#8, 0xD3#8], .gf2p8mulb Pfx.none 10#4 (.reg 11#5)),
  ([0xC4#8, 0x62#8, 0x09#8, 0xCF#8, 0xBC#8, 0x8A#8, 0x1A#8, 0xE1#8, 0x05#8, 0xAA#8], .vgf2p8mulbVex128 (vx 15 14) (.mem (.sib (some 2#4) 1#4 2#2 (.d32 0xAA05E11A#32)))),
  ([0xC4#8, 0xC2#8, 0x35#8, 0xCF#8, 0xCE#8], .vgf2p8mulbVex256 (vx 1 9) (.reg 14#5)),
  ([0x62#8, 0xE2#8, 0x3D#8, 0x87#8, 0xCF#8, 0x15#8, 0x3D#8, 0x56#8, 0xD5#8, 0x58#8], .vgf2p8mulb128 (ev 18 24 7 true false) (.mem (.ripRel 0x58D5563D#32))),
  ([0x62#8, 0x12#8, 0x45#8, 0x28#8, 0xCF#8, 0xD7#8], .vgf2p8mulb256 (ev 10 7 0 false false) (.reg 31#5)),
  ([0x62#8, 0x72#8, 0x6D#8, 0xC3#8, 0xCF#8, 0x2A#8], .vgf2p8mulb512 (ev 13 18 3 true false) (.mem (.base 2#4 .none)))] = true := by decide

/-- Every row of this family, its bytes written out from its opcode row and 30_encoding.md R166, R170, R173. -/
theorem test_decode_aes : agree [
  ([0xC4#8, 0x62#8, 0x05#8, 0xDE#8, 0xE2#8], .vaesdecVex256 (vx 12 15) (.reg 2#5)),
  ([0x62#8, 0x52#8, 0x1D#8, 0x00#8, 0xDE#8, 0x10#8], .vaesdec128 (ev 10 28 0 false false) (.mem (.base 8#4 .none))),
  ([0x62#8, 0x82#8, 0x3D#8, 0x28#8, 0xDE#8, 0xCB#8], .vaesdec256 (ev 17 8 0 false false) (.reg 27#5)),
  ([0x62#8, 0xE2#8, 0x2D#8, 0x40#8, 0xDE#8, 0x4E#8, 0xC2#8], .vaesdec512 (ev 17 26 0 false false) (.mem (.base 6#4 (.d8 194#8)))),
  ([0xC4#8, 0xE2#8, 0x5D#8, 0xDF#8, 0xFA#8], .vaesdeclastVex256 (vx 7 4) (.reg 2#5)),
  ([0x62#8, 0x32#8, 0x35#8, 0x08#8, 0xDF#8, 0x9C#8, 0x7F#8, 0x9E#8, 0x90#8, 0x16#8, 0x03#8], .vaesdeclast128 (ev 11 9 0 false false) (.mem (.sib (some 7#4) 15#4 1#2 (.d32 0x316909E#32)))),
  ([0x62#8, 0x32#8, 0x7D#8, 0x20#8, 0xDF#8, 0xDA#8], .vaesdeclast256 (ev 11 16 0 false false) (.reg 18#5)),
  ([0x62#8, 0xF2#8, 0x35#8, 0x48#8, 0xDF#8, 0x05#8, 0x11#8, 0xBD#8, 0xFB#8, 0x90#8], .vaesdeclast512 (ev 0 9 0 false false) (.mem (.ripRel 0x90FBBD11#32))),
  ([0xC4#8, 0xC2#8, 0x75#8, 0xDC#8, 0xE6#8], .vaesencVex256 (vx 4 1) (.reg 14#5)),
  ([0x62#8, 0x42#8, 0x35#8, 0x00#8, 0xDC#8, 0x08#8], .vaesenc128 (ev 25 25 0 false false) (.mem (.base 8#4 .none))),
  ([0x62#8, 0x02#8, 0x4D#8, 0x28#8, 0xDC#8, 0xCE#8], .vaesenc256 (ev 25 6 0 false false) (.reg 30#5)),
  ([0x62#8, 0x62#8, 0x65#8, 0x48#8, 0xDC#8, 0x4B#8, 0x22#8], .vaesenc512 (ev 25 3 0 false false) (.mem (.base 3#4 (.d8 34#8)))),
  ([0xC4#8, 0xE2#8, 0x0D#8, 0xDD#8, 0xF5#8], .vaesenclastVex256 (vx 6 14) (.reg 5#5)),
  ([0x62#8, 0xF2#8, 0x55#8, 0x00#8, 0xDD#8, 0xBC#8, 0x09#8, 0x16#8, 0xBB#8, 0x18#8, 0x91#8], .vaesenclast128 (ev 7 21 0 false false) (.mem (.sib (some 1#4) 1#4 0#2 (.d32 0x9118BB16#32)))),
  ([0x62#8, 0xF2#8, 0x45#8, 0x20#8, 0xDD#8, 0xF1#8], .vaesenclast256 (ev 6 23 0 false false) (.reg 1#5)),
  ([0x62#8, 0xF2#8, 0x15#8, 0x48#8, 0xDD#8, 0x25#8, 0x1C#8, 0xA0#8, 0x33#8, 0x9D#8], .vaesenclast512 (ev 4 13 0 false false) (.mem (.ripRel 0x9D33A01C#32)))] = true := by decide

/-- Every row of this family, its bytes written out from its opcode row and 30_encoding.md R166, R170, R173. -/
theorem test_decode_pclmul : agree [
  ([0xC4#8, 0xC3#8, 0x3D#8, 0x44#8, 0xE3#8, 0xBA#8], .vpclmulqdqVex256 (vx 4 8) (.reg 11#5) 186#8),
  ([0x62#8, 0x63#8, 0x45#8, 0x08#8, 0x44#8, 0x31#8, 0xF9#8], .vpclmulqdq128 (ev 30 7 0 false false) (.mem (.base 1#4 .none)) 249#8),
  ([0x62#8, 0x03#8, 0x0D#8, 0x20#8, 0x44#8, 0xEE#8, 0x9F#8], .vpclmulqdq256 (ev 29 30 0 false false) (.reg 30#5) 159#8),
  ([0x62#8, 0xF3#8, 0x35#8, 0x48#8, 0x44#8, 0x69#8, 0xAF#8, 0x87#8], .vpclmulqdq512 (ev 5 9 0 false false) (.mem (.base 1#4 (.d8 175#8))) 135#8)] = true := by decide

/-- Every row of this family, its bytes written out from its opcode row and 30_encoding.md R166, R170, R173. -/
theorem test_decode_compress_expand : agree [
  ([0x62#8, 0x42#8, 0x7D#8, 0x0A#8, 0x63#8, 0x37#8], .vpcompressbMem128 (ev 30 0 2 false false) (.base 15#4 .none)),
  ([0x62#8, 0xD2#8, 0x7D#8, 0x0D#8, 0x63#8, 0xCD#8], .vpcompressbReg128 (ev 1 0 5 false false) 13#5),
  ([0x62#8, 0x92#8, 0x7D#8, 0x2B#8, 0x63#8, 0x8C#8, 0x39#8, 0x46#8, 0x44#8, 0xC3#8, 0x2A#8], .vpcompressbMem256 (ev 1 0 3 false false) (.sib (some 9#4) 15#4 0#2 (.d32 0x2AC34446#32))),
  ([0x62#8, 0xC2#8, 0x7D#8, 0x2B#8, 0x63#8, 0xEE#8], .vpcompressbReg256 (ev 21 0 3 false false) 14#5),
  ([0x62#8, 0x42#8, 0x7D#8, 0x4B#8, 0x63#8, 0x0F#8], .vpcompressbMem512 (ev 25 0 3 false false) (.base 15#4 .none)),
  ([0x62#8, 0x12#8, 0x7D#8, 0x4D#8, 0x63#8, 0xE7#8], .vpcompressbReg512 (ev 12 0 5 false false) 31#5),
  ([0x62#8, 0x92#8, 0xFD#8, 0x0D#8, 0x63#8, 0x8C#8, 0x80#8, 0x77#8, 0xCB#8, 0x22#8, 0x58#8], .vpcompresswMem128 (ev 1 0 5 false false) (.sib (some 8#4) 8#4 2#2 (.d32 0x5822CB77#32))),
  ([0x62#8, 0xE2#8, 0xFD#8, 0x0B#8, 0x63#8, 0xFD#8], .vpcompresswReg128 (ev 23 0 3 false false) 5#5),
  ([0x62#8, 0x52#8, 0xFD#8, 0x2B#8, 0x63#8, 0x31#8], .vpcompresswMem256 (ev 14 0 3 false false) (.base 9#4 .none)),
  ([0x62#8, 0xC2#8, 0xFD#8, 0x2F#8, 0x63#8, 0xED#8], .vpcompresswReg256 (ev 21 0 7 false false) 13#5),
  ([0x62#8, 0x02#8, 0xFD#8, 0x4A#8, 0x63#8, 0xB4#8, 0x3B#8, 0xA1#8, 0x98#8, 0x06#8, 0x33#8], .vpcompresswMem512 (ev 30 0 2 false false) (.sib (some 11#4) 15#4 0#2 (.d32 0x330698A1#32))),
  ([0x62#8, 0x22#8, 0xFD#8, 0xC9#8, 0x63#8, 0xDD#8], .vpcompresswReg512 (ev 27 0 1 true false) 21#5),
  ([0x62#8, 0x42#8, 0x7D#8, 0x09#8, 0x62#8, 0x28#8], .vpexpandbMem128 (ev 29 0 1 false false) (.base 8#4 .none)),
  ([0x62#8, 0x52#8, 0x7D#8, 0x08#8, 0x62#8, 0xD0#8], .vpexpandbReg128 (ev 10 0 0 false false) 8#5),
  ([0x62#8, 0x12#8, 0x7D#8, 0x2A#8, 0x62#8, 0x8C#8, 0x7E#8, 0xEA#8, 0xDE#8, 0xFD#8, 0xEF#8], .vpexpandbMem256 (ev 9 0 2 false false) (.sib (some 14#4) 15#4 1#2 (.d32 0xEFFDDEEA#32))),
  ([0x62#8, 0xF2#8, 0x7D#8, 0x29#8, 0x62#8, 0xC8#8], .vpexpandbReg256 (ev 1 0 1 false false) 0#5),
  ([0x62#8, 0x62#8, 0x7D#8, 0x4B#8, 0x62#8, 0x1B#8], .vpexpandbMem512 (ev 27 0 3 false false) (.base 3#4 .none)),
  ([0x62#8, 0xC2#8, 0x7D#8, 0x4C#8, 0x62#8, 0xC5#8], .vpexpandbReg512 (ev 16 0 4 false false) 13#5),
  ([0x62#8, 0x82#8, 0xFD#8, 0x08#8, 0x62#8, 0xA4#8, 0xC8#8, 0xB4#8, 0xCD#8, 0x8D#8, 0xD5#8], .vpexpandwMem128 (ev 20 0 0 false false) (.sib (some 8#4) 9#4 3#2 (.d32 0xD58DCDB4#32))),
  ([0x62#8, 0x82#8, 0xFD#8, 0x0E#8, 0x62#8, 0xF5#8], .vpexpandwReg128 (ev 22 0 6 false false) 29#5),
  ([0x62#8, 0x52#8, 0xFD#8, 0x28#8, 0x62#8, 0x0A#8], .vpexpandwMem256 (ev 9 0 0 false false) (.base 10#4 .none)),
  ([0x62#8, 0x42#8, 0xFD#8, 0x28#8, 0x62#8, 0xE3#8], .vpexpandwReg256 (ev 28 0 0 false false) 11#5),
  ([0x62#8, 0x72#8, 0xFD#8, 0x4F#8, 0x62#8, 0x8C#8, 0xD5#8, 0xCA#8, 0x31#8, 0xCF#8, 0x0F#8], .vpexpandwMem512 (ev 9 0 7 false false) (.sib (some 5#4) 2#4 3#2 (.d32 0xFCF31CA#32))),
  ([0x62#8, 0xD2#8, 0xFD#8, 0xCB#8, 0x62#8, 0xDF#8], .vpexpandwReg512 (ev 3 0 3 true false) 15#5)] = true := by decide

/-- Every row of this family, its bytes written out from its opcode row and 30_encoding.md R166, R170, R173. -/
theorem test_decode_shift_left : agree [
  ([0x62#8, 0x93#8, 0xCD#8, 0x08#8, 0x70#8, 0xD4#8, 0x20#8], .vpshldw128 (ev 2 6 0 false false) (.reg 28#5) 32#8),
  ([0x62#8, 0x43#8, 0xDD#8, 0xA3#8, 0x70#8, 0x23#8, 0xE7#8], .vpshldw256 (ev 28 20 3 true false) (.mem (.base 11#4 .none)) 231#8),
  ([0x62#8, 0x23#8, 0x85#8, 0xCB#8, 0x70#8, 0xF0#8, 0x46#8], .vpshldw512 (ev 30 15 3 true false) (.reg 16#5) 70#8),
  ([0x62#8, 0x63#8, 0x45#8, 0x0D#8, 0x71#8, 0x57#8, 0xE2#8, 0xDB#8], .vpshldd128 (ev 26 7 5 false false) (.mem (.base 7#4 (.d8 226#8))) 219#8),
  ([0x62#8, 0xB3#8, 0x15#8, 0x29#8, 0x71#8, 0xE3#8, 0xBB#8], .vpshldd256 (ev 4 13 1 false false) (.reg 19#5) 187#8),
  ([0x62#8, 0x33#8, 0x7D#8, 0x47#8, 0x71#8, 0x8C#8, 0x44#8, 0xF4#8, 0x9A#8, 0x18#8, 0x18#8, 0x52#8], .vpshldd512 (ev 9 16 7 false false) (.mem (.sib (some 4#4) 8#4 1#2 (.d32 0x18189AF4#32))) 82#8),
  ([0x62#8, 0x23#8, 0xB5#8, 0x06#8, 0x71#8, 0xDD#8, 0xB6#8], .vpshldq128 (ev 27 25 6 false false) (.reg 21#5) 182#8),
  ([0x62#8, 0xE3#8, 0xD5#8, 0x38#8, 0x71#8, 0x25#8, 0x81#8, 0xE0#8, 0xDE#8, 0xB8#8, 0xEA#8], .vpshldq256 (ev 20 5 0 false true) (.mem (.ripRel 0xB8DEE081#32)) 234#8),
  ([0x62#8, 0x03#8, 0xF5#8, 0xCD#8, 0x71#8, 0xE0#8, 0x20#8], .vpshldq512 (ev 28 1 5 true false) (.reg 24#5) 32#8),
  ([0x62#8, 0xF2#8, 0x8D#8, 0x89#8, 0x70#8, 0x39#8], .vpshldvw128 (ev 7 14 1 true false) (.mem (.base 1#4 .none))),
  ([0x62#8, 0xC2#8, 0xED#8, 0x2C#8, 0x70#8, 0xCB#8], .vpshldvw256 (ev 17 2 4 false false) (.reg 11#5)),
  ([0x62#8, 0x62#8, 0xFD#8, 0xC7#8, 0x70#8, 0x5F#8, 0x4C#8], .vpshldvw512 (ev 27 16 7 true false) (.mem (.base 7#4 (.d8 76#8)))),
  ([0x62#8, 0xF2#8, 0x75#8, 0x82#8, 0x71#8, 0xEB#8], .vpshldvd128 (ev 5 17 2 true false) (.reg 3#5)),
  ([0x62#8, 0xB2#8, 0x75#8, 0x21#8, 0x71#8, 0xA4#8, 0x38#8, 0x0E#8, 0x88#8, 0x37#8, 0xCD#8], .vpshldvd256 (ev 4 17 1 false false) (.mem (.sib (some 0#4) 15#4 0#2 (.d32 0xCD37880E#32)))),
  ([0x62#8, 0x82#8, 0x45#8, 0x48#8, 0x71#8, 0xC5#8], .vpshldvd512 (ev 16 7 0 false false) (.reg 29#5)),
  ([0x62#8, 0xE2#8, 0xAD#8, 0x03#8, 0x71#8, 0x2D#8, 0x68#8, 0xE0#8, 0x14#8, 0x21#8], .vpshldvq128 (ev 21 26 3 false false) (.mem (.ripRel 0x2114E068#32))),
  ([0x62#8, 0xC2#8, 0xE5#8, 0xAB#8, 0x71#8, 0xC3#8], .vpshldvq256 (ev 16 3 3 true false) (.reg 11#5)),
  ([0x62#8, 0xE2#8, 0x95#8, 0x5F#8, 0x71#8, 0x1E#8], .vpshldvq512 (ev 19 13 7 false true) (.mem (.base 6#4 .none)))] = true := by decide

/-- Every row of this family, its bytes written out from its opcode row and 30_encoding.md R166, R170, R173. -/
theorem test_decode_shift_right : agree [
  ([0x62#8, 0xA3#8, 0xF5#8, 0x08#8, 0x72#8, 0xF0#8, 0x07#8], .vpshrdw128 (ev 22 1 0 false false) (.reg 16#5) 7#8),
  ([0x62#8, 0xD3#8, 0x9D#8, 0x2F#8, 0x72#8, 0x0A#8, 0xE4#8], .vpshrdw256 (ev 1 12 7 false false) (.mem (.base 10#4 .none)) 228#8),
  ([0x62#8, 0x93#8, 0xA5#8, 0xC6#8, 0x72#8, 0xF7#8, 0x6E#8], .vpshrdw512 (ev 6 27 6 true false) (.reg 31#5) 110#8),
  ([0x62#8, 0x73#8, 0x55#8, 0x86#8, 0x73#8, 0x73#8, 0x47#8, 0x42#8], .vpshrdd128 (ev 14 21 6 true false) (.mem (.base 3#4 (.d8 71#8))) 66#8),
  ([0x62#8, 0xB3#8, 0x5D#8, 0x2E#8, 0x73#8, 0xC0#8, 0x1C#8], .vpshrdd256 (ev 0 4 6 false false) (.reg 16#5) 28#8),
  ([0x62#8, 0x93#8, 0x3D#8, 0x50#8, 0x73#8, 0xAC#8, 0x61#8, 0x9C#8, 0xD6#8, 0x53#8, 0xB1#8, 0x5E#8], .vpshrdd512 (ev 5 24 0 false true) (.mem (.sib (some 9#4) 12#4 1#2 (.d32 0xB153D69C#32))) 94#8),
  ([0x62#8, 0x13#8, 0xF5#8, 0x00#8, 0x73#8, 0xD4#8, 0x86#8], .vpshrdq128 (ev 10 17 0 false false) (.reg 28#5) 134#8),
  ([0x62#8, 0xE3#8, 0xD5#8, 0x33#8, 0x73#8, 0x3D#8, 0x33#8, 0x00#8, 0x0D#8, 0x8C#8, 0x6F#8], .vpshrdq256 (ev 23 21 3 false true) (.mem (.ripRel 0x8C0D0033#32)) 111#8),
  ([0x62#8, 0xE3#8, 0xA5#8, 0xCD#8, 0x73#8, 0xF0#8, 0x2A#8], .vpshrdq512 (ev 22 11 5 true false) (.reg 0#5) 42#8),
  ([0x62#8, 0x42#8, 0xF5#8, 0x03#8, 0x72#8, 0x32#8], .vpshrdvw128 (ev 30 17 3 false false) (.mem (.base 10#4 .none))),
  ([0x62#8, 0xB2#8, 0xD5#8, 0x29#8, 0x72#8, 0xC0#8], .vpshrdvw256 (ev 0 5 1 false false) (.reg 16#5)),
  ([0x62#8, 0x62#8, 0xED#8, 0xCC#8, 0x72#8, 0x4F#8, 0x0B#8], .vpshrdvw512 (ev 25 2 4 true false) (.mem (.base 7#4 (.d8 11#8)))),
  ([0x62#8, 0x52#8, 0x55#8, 0x8E#8, 0x73#8, 0xF1#8], .vpshrdvd128 (ev 14 5 6 true false) (.reg 9#5)),
  ([0x62#8, 0x02#8, 0x35#8, 0x2A#8, 0x73#8, 0xBC#8, 0x61#8, 0x91#8, 0xD6#8, 0x98#8, 0xA0#8], .vpshrdvd256 (ev 31 9 2 false false) (.mem (.sib (some 9#4) 12#4 1#2 (.d32 0xA098D691#32)))),
  ([0x62#8, 0xF2#8, 0x75#8, 0xCA#8, 0x73#8, 0xEA#8], .vpshrdvd512 (ev 5 1 2 true false) (.reg 2#5)),
  ([0x62#8, 0xF2#8, 0xBD#8, 0x00#8, 0x73#8, 0x35#8, 0xC3#8, 0x60#8, 0xF8#8, 0xD5#8], .vpshrdvq128 (ev 6 24 0 false false) (.mem (.ripRel 0xD5F860C3#32))),
  ([0x62#8, 0x32#8, 0x85#8, 0x20#8, 0x73#8, 0xF8#8], .vpshrdvq256 (ev 15 31 0 false false) (.reg 16#5)),
  ([0x62#8, 0x42#8, 0xDD#8, 0x59#8, 0x73#8, 0x2F#8], .vpshrdvq512 (ev 29 4 1 false true) (.mem (.base 15#4 .none)))] = true := by decide

/-- Every row of this family, its bytes written out from its opcode row and 30_encoding.md R166, R170, R173. -/
theorem test_decode_dot : agree [
  ([0x62#8, 0xA2#8, 0x5D#8, 0x0B#8, 0x50#8, 0xC0#8], .vpdpbusd128 (ev 16 4 3 false false) (.reg 16#5)),
  ([0x62#8, 0x52#8, 0x15#8, 0x36#8, 0x50#8, 0x31#8], .vpdpbusd256 (ev 14 29 6 false true) (.mem (.base 9#4 .none))),
  ([0x62#8, 0xC2#8, 0x6D#8, 0x49#8, 0x50#8, 0xD4#8], .vpdpbusd512 (ev 18 2 1 false false) (.reg 12#5)),
  ([0x62#8, 0xE2#8, 0x7D#8, 0x10#8, 0x51#8, 0x6D#8, 0x44#8], .vpdpbusds128 (ev 21 16 0 false true) (.mem (.base 5#4 (.d8 68#8)))),
  ([0x62#8, 0xB2#8, 0x05#8, 0x21#8, 0x51#8, 0xD9#8], .vpdpbusds256 (ev 3 31 1 false false) (.reg 17#5)),
  ([0x62#8, 0x02#8, 0x6D#8, 0xC1#8, 0x51#8, 0xBC#8, 0xC1#8, 0xCD#8, 0x0C#8, 0x02#8, 0x33#8], .vpdpbusds512 (ev 31 18 1 true false) (.mem (.sib (some 9#4) 8#4 3#2 (.d32 0x33020CCD#32)))),
  ([0x62#8, 0xE2#8, 0x15#8, 0x87#8, 0x52#8, 0xD4#8], .vpdpwssd128 (ev 18 29 7 true false) (.reg 4#5)),
  ([0x62#8, 0x62#8, 0x15#8, 0x29#8, 0x52#8, 0x05#8, 0x65#8, 0x9C#8, 0x37#8, 0xEE#8], .vpdpwssd256 (ev 24 13 1 false false) (.mem (.ripRel 0xEE379C65#32))),
  ([0x62#8, 0xC2#8, 0x45#8, 0x44#8, 0x52#8, 0xC0#8], .vpdpwssd512 (ev 16 23 4 false false) (.reg 8#5)),
  ([0x62#8, 0xC2#8, 0x0D#8, 0x8F#8, 0x53#8, 0x39#8], .vpdpwssds128 (ev 23 14 7 true false) (.mem (.base 9#4 .none))),
  ([0x62#8, 0x12#8, 0x7D#8, 0xAF#8, 0x53#8, 0xD7#8], .vpdpwssds256 (ev 10 0 7 true false) (.reg 31#5)),
  ([0x62#8, 0xE2#8, 0x35#8, 0xCE#8, 0x53#8, 0x5F#8, 0xB0#8], .vpdpwssds512 (ev 19 9 6 true false) (.mem (.base 7#4 (.d8 176#8))))] = true := by decide

/-- Every row of this family, its bytes written out from its opcode row and 30_encoding.md R166, R170, R173. -/
theorem test_decode_popcount_shuffle : agree [
  ([0x62#8, 0xE2#8, 0x7D#8, 0x8D#8, 0x54#8, 0xE8#8], .vpopcntb128 (ev 21 0 5 true false) (.reg 0#5)),
  ([0x62#8, 0x62#8, 0x7D#8, 0x2B#8, 0x54#8, 0x09#8], .vpopcntb256 (ev 25 0 3 false false) (.mem (.base 1#4 .none))),
  ([0x62#8, 0xA2#8, 0x7D#8, 0x4D#8, 0x54#8, 0xD0#8], .vpopcntb512 (ev 18 0 5 false false) (.reg 16#5)),
  ([0x62#8, 0x62#8, 0xFD#8, 0x8D#8, 0x54#8, 0x4F#8, 0x27#8], .vpopcntw128 (ev 25 0 5 true false) (.mem (.base 7#4 (.d8 39#8)))),
  ([0x62#8, 0xE2#8, 0xFD#8, 0x2C#8, 0x54#8, 0xCB#8], .vpopcntw256 (ev 17 0 4 false false) (.reg 3#5)),
  ([0x62#8, 0x92#8, 0xFD#8, 0x4D#8, 0x54#8, 0x9C#8, 0x79#8, 0x53#8, 0xC0#8, 0x06#8, 0x44#8], .vpopcntw512 (ev 3 0 5 false false) (.mem (.sib (some 9#4) 15#4 1#2 (.d32 0x4406C053#32)))),
  ([0x62#8, 0x82#8, 0x7D#8, 0x08#8, 0x55#8, 0xFB#8], .vpopcntd128 (ev 23 0 0 false false) (.reg 27#5)),
  ([0x62#8, 0x62#8, 0x7D#8, 0x39#8, 0x55#8, 0x0D#8, 0x51#8, 0x37#8, 0x9A#8, 0x8C#8], .vpopcntd256 (ev 25 0 1 false true) (.mem (.ripRel 0x8C9A3751#32))),
  ([0x62#8, 0x42#8, 0x7D#8, 0xCC#8, 0x55#8, 0xE0#8], .vpopcntd512 (ev 28 0 4 true false) (.reg 8#5)),
  ([0x62#8, 0xD2#8, 0xFD#8, 0x1A#8, 0x55#8, 0x1A#8], .vpopcntq128 (ev 3 0 2 false true) (.mem (.base 10#4 .none))),
  ([0x62#8, 0x22#8, 0xFD#8, 0xAC#8, 0x55#8, 0xD5#8], .vpopcntq256 (ev 26 0 4 true false) (.reg 21#5)),
  ([0x62#8, 0xE2#8, 0xFD#8, 0xDB#8, 0x55#8, 0x45#8, 0xCF#8], .vpopcntq512 (ev 16 0 3 true true) (.mem (.base 5#4 (.d8 207#8)))),
  ([0x62#8, 0xD2#8, 0x45#8, 0x0A#8, 0x8F#8, 0xF2#8], .vpshufbitqmb128 (ev 6 7 2 false false) (.reg 10#5)),
  ([0x62#8, 0x92#8, 0x15#8, 0x2E#8, 0x8F#8, 0x8C#8, 0x4F#8, 0x4F#8, 0x11#8, 0x5E#8, 0xC2#8], .vpshufbitqmb256 (ev 1 13 6 false false) (.mem (.sib (some 15#4) 9#4 1#2 (.d32 0xC25E114F#32)))),
  ([0x62#8, 0xD2#8, 0x1D#8, 0x49#8, 0x8F#8, 0xD7#8], .vpshufbitqmb512 (ev 2 12 1 false false) (.reg 15#5))] = true := by decide

/-- A byte string of a row that breaks an encoding rule is not decoded as that row (R170, R195): W = 1 with GF2P8MULB, W = 0
with VPSHLDW, MOVDIRI and MOVDIR64B with mod = 11b, TPAUSE with a memory operand, MOVDIRI and PCONFIG under 66H. -/
theorem test_decode_undefined : ([[0x62#8, 0xF2#8, 0xED#8, 0x48#8, 0xCF#8, 0xCB#8],
    [0x62#8, 0xF3#8, 0x6D#8, 0x48#8, 0x70#8, 0xCB#8, 0x04#8], [0x0F#8, 0x38#8, 0xF9#8, 0xC7#8],
    [0x66#8, 0x0F#8, 0x38#8, 0xF8#8, 0xC6#8], [0x66#8, 0x0F#8, 0xAE#8, 0x31#8], [0x66#8, 0x0F#8, 0x38#8, 0xF9#8, 0x07#8],
    [0x66#8, 0x0F#8, 0x01#8, 0xC5#8], [0xF3#8, 0x0F#8, 0x01#8, 0xC5#8], [0xF2#8, 0x0F#8, 0x01#8, 0xC5#8]].all
      fun bs => decide (decode .long bs = .undefined)) = true := by decide

/-- R333: F2H or F3H with MOVDIR64B's opcode matches no row, with or without 66H; R204 (a): beside the 66H of GF2P8MULB it
is not looked at. -/
theorem test_decode_movdir64b_prefixes : (
    [[0xF2#8, 0x66#8, 0x0F#8, 0x38#8, 0xF8#8, 0x06#8], [0x66#8, 0xF3#8, 0x0F#8, 0x38#8, 0xF8#8, 0x06#8],
      [0x66#8, 0xF3#8, 0x0F#8, 0x38#8, 0xF8#8, 0xC6#8], [0xF3#8, 0x0F#8, 0x38#8, 0xF8#8, 0x06#8]].all
        (fun bs => decide (decode .long bs = .noMatch .noRow)) = true ∧
      decode .long [0xF2#8, 0x66#8, 0x0F#8, 0x38#8, 0xCF#8, 0xCA#8] = .instr (.gf2p8mulb Pfx.none 1#4 (.reg 2#5)) 6) := by
  decide

/-! ## Ill-formed terms, one for each check of WellFormed -/

/-- A forbidden prefix; a vector register the encoding cannot name; a RIP-relative operand under 16-bit addressing. -/
theorem test_ill_formed_operands : ([
    (DecodeMode.long, Instr.cpuid { Pfx.none with forbidden := true }),
    (.long, .gf2p8mulb Pfx.none 1#4 (.reg 16#5)), (.long, .vgf2p8mulbVex128 (vx 1 2) (.reg 16#5)),
    (⟨false, true⟩, .tpause Pfx.none 8#4), (⟨false, true⟩, .vgf2p8mulb128 (ev 8 2 0 false false) (.reg 3#5)),
    (⟨false, false⟩, .cldemote Pfx.none (.ripRel 0#32)), (⟨false, true⟩, .movdiri64 Pfx.none 1#4 (.base 6#4 .none))].all
      fun p => !p.2.wellFormed p.1) = true := by decide

/-- Memory operands ModRM cannot express: base RSP without SIB, base RBP or R13 without displacement, a 16-bit displacement
with 64-bit addressing, a SIB without base and without disp32, 16-bit forms in 64-bit mode. -/
theorem test_ill_formed_memory : ([Mem.base 4#4 .none, .base 12#4 (.d8 0#8), .base 5#4 .none, .base 13#4 .none,
    .base 0#4 (.d16 0#16), .sib (some 5#4) 1#4 0#2 .none, .sib none 1#4 0#2 .none, .a16 0#3 .none, .disp16 0#16].all
      fun m => !(Instr.cldemote Pfx.none m).wellFormed .long) = true := by decide

/-- EVEX fields: P0[3:2], P1[2], masking of a row without it, zeroing without a mask, zeroing a memory destination, an
opmask destination above k7 or zeroed, broadcast on a row without it or with a register, vvvv where it is no operand. -/
theorem test_ill_formed_evex : ([
    Instr.vgf2p8mulb128 { ev 1 2 0 false false with p0res := 1#2 } (.reg 3#5),
    .vgf2p8mulb128 { ev 1 2 0 false false with p1one := false } (.reg 3#5), .vaesdec128 (ev 1 2 1 false false) (.reg 3#5),
    .vaesdec128 (ev 1 2 0 true false) (.reg 3#5), .vpshldd128 (ev 1 2 0 true false) (.reg 3#5) 0#8,
    .vpcompressbMem128 (ev 1 0 1 true false) (.base 0#4 .none), .vpshufbitqmb128 (ev 9 2 0 false false) (.reg 3#5),
    .vpshufbitqmb128 (ev 1 2 2 true false) (.reg 3#5), .vgf2p8mulb512 (ev 1 2 0 false true) (.mem (.base 0#4 .none)),
    .vpshldd128 (ev 1 2 0 false true) (.reg 3#5) 0#8, .vpopcntb512 (ev 1 1 0 false false) (.reg 2#5)].all
      fun i => !i.wellFormed .long) = true := by decide

/-! ## One step on a small state. Expected values: the vectors of the spec, by rule and row. -/

/-- The bytes run as the instruction at RIP. -/
def run (bs : List Byte) (s : State) : Host.Outcome State Fault Refusal :=
  match decode s.decodeMode bs with
  | .instr i len => exec i { s with nextRip := s.rip + BitVec.ofNat 64 len }
  | _ => .fault .undefinedOpcode

/-- Does the outcome have a next state with this property? -/
def gives (o : Host.Outcome State Fault Refusal) (p : State → Bool) : Bool :=
  match o with
  | .next t => p t
  | _ => false

/-- Does the outcome raise this exception? -/
def raises (o : Host.Outcome State Fault Refusal) (e : Exc) (code : Option (BitVec 32)) : Bool :=
  match o with
  | .fault (.exception x c _) => decide (x = e) && decide (c = code)
  | _ => false

/-- The state after reset with every feature: 64-bit mode, CPL 0. -/
def base : State := State.reset

/-- The same at CPL 3. -/
def user : State := { base with sys := { base.sys with cpl := 3#2 } }

/-- Bytes put in memory. -/
def bytesAt (s : State) (a : Nat) (bs : List Byte) : State := { s with mem := memSetMany s.mem (cellsAt a bs) }

/-- The same element in `n` places. -/
def rep (w n : Nat) (v : BitVec w) : Vec := lanes w n fun _ => v

/-- A vector of bytes, lowest first. -/
def bytesVec (bs : List Byte) : Vec := vecOfBytes bs

/-- All ones. -/
def ones : Vec := BitVec.allOnes 512

/-- R305 (i), (a): only EAX selects the leaf, the upper halves are cleared. -/
theorem test_cpuid_leaf_0 : gives (run [0x0F#8, 0xA2#8] ((base.setGpr64 rax 0xFFFFFFFF00000000#64).setGpr64 rdx
    0xFFFFFFFFFFFFFFFF#64)) (fun t => t.gpr64 rax == 0x1B#64 && t.gpr64 rbx == 0x756E6547#64 &&
      t.gpr64 rdx == 0x49656E69#64 && t.gpr64 rcx == 0x6C65746E#64 && t.rip == 2#64) = true := by decide

/-- R305 (b), (c), (d), (f), (h). -/
theorem test_cpuid_leaves : ((cpuidAnswer base 7#32 0#32).ecx &&& 0x1A005F60#32 = 0x1A005F60#32 ∧
    (cpuidAnswer base 7#32 0#32).edx = 0x40000#32 ∧ (cpuidAnswer base 7#32 0#32).ebx &&& 0xC0010000#32 = 0xC0010000#32 ∧
    cpuidAnswer base 7#32 1#32 = CpuidOut.zero ∧ cpuidAnswer base 0x1B#32 1#32 = CpuidOut.zero ∧
    cpuidAnswer base 0x1C#32 0#32 = { eax := 1#32, ebx := 1#32, ecx := 0#32, edx := 0#32 } ∧
    (cpuidAnswer base 0x80000008#32 0#32).ebx = 0x200#32 ∧ (cpuidAnswer base 1#32 0#32).ecx.getLsbD 27 = true) := by decide

/-- A processor with no feature. -/
def noFeatures : Features :=
  { sse := false, avx := false, avx512f := false, avx512vl := false, avx512bw := false, vbmi2 := false, gfni := false
    vaes := false, vpclmulqdq := false, vnni := false, bitalg := false, vpopcntdq := false, waitpkg := false
    cldemote := false, movdiri := false, movdir64b := false, pconfig := false, wbnoinvd := false, hfi := false
    splitLock := false, spp := false, ptVmx := false }

/-- R231, R236: the highest leaves a processor with WBNOINVD, PCONFIG, AVX, another instruction of Chapter 2, AVX512BW, the
feedback interface reports; R8, R253, R304, R573: at most 52 bits of physical address, 64 of linear, a line of a multiple
of 8 bytes that CPUID can report, 1 to 16 pages and a row inside them; R301: no brand index from family 0FH, model 03H on. -/
theorem test_cfg_bounds : (
    let low : Cfg := { base.cfg with highestBasicLeaf := 5#32, highestExtLeaf := 0#32, physAddrBits := 60 }
    low.cpuidMaxBasic = 0x1B#32 ∧ low.cpuidMaxExt = 0x80000008#32 ∧ low.maxPhyAddr = 52 ∧
      { low with features := { low.features with pconfig := false } }.cpuidMaxBasic = 0xD#32 ∧
      leastBasicLeaf { noFeatures with gfni := true } = 7 ∧ leastBasicLeaf { noFeatures with avx512bw := true } = 7 ∧
      leastBasicLeaf { noFeatures with hfi := true } = 6 ∧ leastBasicLeaf noFeatures = 1 ∧
      { low with virtAddrBits := 300 }.linAddrBits = 64 ∧ { low with hfiPageCount := 17 }.hfiPages = 16 ∧
      { low with hfiPageCount := 0, hfiRowIndex := 600 }.hfiPages = 1 ∧
      { low with hfiPageCount := 0, hfiRowIndex := 600 }.hfiRow = 509 ∧
      { low with clflushLineBytes := 100 }.clflushLine = 96 ∧ { low with clflushLineBytes := 4096 }.clflushLine = 2040 ∧
      { low with clflushLineBytes := 0 }.clflushLine = 8 ∧
      brandIndexGone noFeatures 0xF12#32 = false ∧
      brandIndexGone noFeatures 0xF34#32 = true) := by decide

/-- R259: a serial number with the PSN flag and no instruction of Chapter 2; else the leaf is 0. -/
theorem test_cpuid_leaf03 : (
    let t := [cpuidRow 1 0 0 0 0 0x40000, cpuidRow 3 0 1 2 0x33 0x44]
    let old := { base with cfg := { base.cfg with features := noFeatures, cpuid := t } }
    cpuidAnswer old 3#32 0#32 = { eax := 0#32, ebx := 0#32, ecx := 0x33#32, edx := 0x44#32 } ∧
      cpuidAnswer { base with cfg := { base.cfg with cpuid := t } } 3#32 0#32 = CpuidOut.zero ∧
      leaf03 { old with cfg := { old.cfg with cpuid := t.drop 1 } } = CpuidOut.zero) := by decide

/-- R553: no trace byte before two blocks are cached, then only into the current one; with the STOP bit one is enough. The
next block takes bytes before the block after it is looked up. -/
theorem test_pt_lookups : (
    let s := { base with msr := { base.msr with rtitCtl := 1#64 } }
    let one := ptLookup s 0x1000 0x10 false
    let two := ptLookup one 0x2000 0x10 false
    let moved := ptAdvance two
    (ptOutput s 0x1000 [1#8]).mem = [] ∧ (ptOutput one 0x1000 [1#8]).mem = [] ∧
      (ptOutput two 0x100F [1#8, 2#8]).mem = [(0x100F, 1#8)] ∧
      (ptOutput (ptLookup s 0x1000 0x10 true) 0x1000 [1#8]).mem = [(0x1000, 1#8)] ∧
      ptLookup two 0x3000 0x10 false = two ∧ moved.pt.next = none ∧
      (ptOutput moved 0x2000 [3#8]).mem = [(0x2000, 3#8)] ∧
      (ptLookup moved 0x3000 0x10 false).pt.current = some { pa := 0x2000, len := 0x10 } ∧
      (ptLookup moved 0x3000 0x10 false).pt.next = some { pa := 0x3000, len := 0x10 }) := by decide

/-- R553: a region with the STOP bit that spans two EPT pages is looked up to its end, and nothing beyond it. -/
theorem test_pt_stop_region : (
    let page := fun g p => ({
      gpaBase := g, paBase := p, size := .k4, misconfigured := false, read := true
      execute := true, accW := true, spp := false } : EptEntry)
    let s := { base with
      msr := { base.msr with rtitCtl := 1#64 }
      vmx := { base.vmx with
        mode := .nonRoot, ept := [page 0x1000 0x1000, page 0x2000 0x5000]
        vmcs := { base.vmx.vmcs with primaryCtl := 0x80000000#32, secondaryCtl := 0x1000000#32, enableEpt := true } } }
    let one := ptLookup s 0x1FF0 0x20 true
    let two := ptLookup one 0x7000 0x10 false
    one.pt = { current := some { pa := 0x1FF0, len := 0x10 }, next := none, started := false
               stopRest := some (0x2000, 0x10) } ∧
      two.pt.next = some { pa := 0x5000, len := 0x10 } ∧ two.pt.started = true ∧
      ptLookup (ptAdvance two) 0x7000 0x10 false = ptAdvance two) := by decide

/-- R232, footnote: with CR4.OSXSAVE set CPUID reports XSAVE, whatever the table says; without it the table's bit. -/
theorem test_cpuid_xsave : (
    let s := { base with cfg := { base.cfg with cpuid := [], features := { base.cfg.features with avx := false, avx512f := false } } }
    (cpuidAnswer s 1#32 0#32).ecx.extractLsb' 26 2 = 3#2 ∧
      (cpuidAnswer { s with sys := { s.sys with cr4 := 0x20#64 } } 1#32 0#32).ecx.extractLsb' 26 2 = 0#2) := by decide

/-- R337 rows 1, 2. -/
theorem test_cldemote : (gives (run [0x0F#8, 0x1C#8, 0x00#8] (base.setGpr64 0#4 0x8000000000000000#64)) (·.rip == 3#64) &&
    raises (run [0xF0#8, 0x0F#8, 0x1C#8, 0x00#8] base) .ud none) = true := by decide

/-- R337 row 3. -/
theorem test_movdiri32 : gives (run [0x0F#8, 0x38#8, 0xF9#8, 0x07#8] ((base.setGpr64 7#4 0x1000#64).setGpr64 0#4
    0x1122334455667788#64)) (fun t => t.mem == [(0x1000, 0x88#8), (0x1001, 0x77#8), (0x1002, 0x66#8), (0x1003, 0x55#8)] &&
      t.rip == 4#64) = true := by decide

/-- R337 row 8. -/
theorem test_movdiri_alignment_check : raises (run [0x0F#8, 0x38#8, 0xF9#8, 0x07#8]
    { user.setGpr64 7#4 0x1001#64 with sys := { user.sys with cr0 := user.sys.cr0 ||| 0x40000#64 }, rflags := 0x40002#64 })
    .ac (some 0#32) = true := by decide

/-- R337 rows 4 and 7. -/
theorem test_movdiri64 : (gives (run [0x48#8, 0x0F#8, 0x38#8, 0xF9#8, 0x07#8] ((base.setGpr64 7#4 0x1000#64).setGpr64 0#4
    0x1122334455667788#64)) (fun t => t.byte 0x1007 == 0x11#8 && t.byte 0x1000 == 0x88#8 && t.mem.length == 8) &&
    raises (run [0x48#8, 0x0F#8, 0x38#8, 0xF9#8, 0x07#8] (base.setGpr64 7#4 0x800000000000#64)) .gp (some 0#32)) = true := by
  decide

/-- R337 row 12: overlapping source and destination. -/
theorem test_movdir64b_overlap : gives (run [0x66#8, 0x0F#8, 0x38#8, 0xF8#8, 0x06#8]
    (bytesAt ((base.setGpr64 0#4 0x1040#64).setGpr64 6#4 0x1020#64) 0x1020 ((List.range 64).map (BitVec.ofNat 8))))
    (fun t => (List.range 64).all (fun i => t.byte (0x1040 + i) == BitVec.ofNat 8 i) && t.byte 0x103F == 0x1F#8) = true := by
  decide

/-- R337 row 11. -/
theorem test_movdir64b_unaligned : raises (run [0x66#8, 0x0F#8, 0x38#8, 0xF8#8, 0x06#8]
    ((base.setGpr64 0#4 0x2020#64).setGpr64 6#4 0x1000#64)) .gp (some 0#32) = true := by decide

/-- R337 rows 16, 17. -/
theorem test_wbnoinvd : (gives (run [0xF3#8, 0x0F#8, 0x09#8] base) (·.rip == 3#64) &&
    raises (run [0xF3#8, 0x0F#8, 0x09#8] user) .gp (some 0#32)) = true := by decide

/-- The base state of R371, with a structure of KEYID, COMMAND and ENC_ALG and keys 01H and 02H at 10000H. -/
def keyed (id cmd alg : Nat) : State :=
  bytesAt
    { base.setGpr64 rbx 0x10000#64 with
      rflags := 0x8D7#64
      msr := { base.msr with
        tmeLock := true, tmeEnable := true, mkTmeKeyidBits := 4, mkTmeCryptoAlgs := 1#16, mkTmeMaxKeys := 15 } }
    0x10000 ([BitVec.ofNat 8 id, 0#8, BitVec.ofNat 8 cmd, BitVec.ofNat 8 alg, 0#8] ++ List.replicate 59 0#8 ++ [1#8] ++
      List.replicate 63 0#8 ++ [2#8] ++ List.replicate 63 0#8)

/-- R371 rows 1, 9 and 31. -/
theorem test_pconfig_set_key : gives (run [0x0F#8, 0x01#8, 0xC5#8] (keyed 15 0 1)) (fun t =>
    keySlot t.keyTable 15 == { dataKey := 1#128, tweakKey := 2#128, mode := .encryptWithKeyidKey } &&
      t.gpr64 rax == 0#64 && t.rflags == 2#64 && t.rip == 3#64) = true := by decide

/-- R371 rows 8, 13 and 25. -/
theorem test_pconfig_codes : (gives (run [0x0F#8, 0x01#8, 0xC5#8] (keyed 16 0 1)) (fun t =>
    t.gpr64 rax == 3#64 && t.rflags == 0x42#64 && t.keyTable == []) &&
    gives (run [0x0F#8, 0x01#8, 0xC5#8] (keyed 0 4 0)) (·.gpr64 rax == 1#64) &&
    raises (run [0x0F#8, 0x01#8, 0xC5#8] { keyed 1 0 1 with sys := user.sys }) .ud none) = true := by decide

/-- R66, R368: another processor's PCONFIG sets an entry in range; there is no other where the machine is alone. -/
theorem test_key_program : (
    let k : KeySlot := { dataKey := 7#128, tweakKey := 9#128, mode := .encryptWithKeyidKey }
    let s := { keyed 1 0 1 with cfg := { base.cfg with logicalProcessors := 2 } }
    keySlot (keyProgramByOther s 15 k).keyTable 15 = k ∧ (keyProgramByOther s 16 k).keyTable = [] ∧
      (keyProgramByOther s 0 k).keyTable = [] ∧ (keyProgramByOther (keyed 1 0 1) 15 k).keyTable = []) := by decide

/-- R393 row 11: a deadline that is past; row 9. -/
theorem test_tpause : (gives (run [0x66#8, 0x0F#8, 0xAE#8, 0xF1#8] { base with tsc := 1000#64, rflags := 0x8D7#64 })
    (fun t => t.rflags == 2#64 && t.rip == 4#64) &&
    raises (run [0x66#8, 0x0F#8, 0xAE#8, 0xF1#8] (base.setGpr64 rcx 2#64)) .gp (some 0#32)) = true := by decide

/-- R393 row 19: no monitor armed, and an operating-system limit of 256 as in P4 of 95_test_vectors.md; row 22. -/
theorem test_umwait : (gives (run [0xF2#8, 0x0F#8, 0xAE#8, 0xF1#8] { base.setGpr64 rax 2000#64 with
    tsc := 1000#64, rflags := 0x8D7#64, msr := { base.msr with umwaitControl := 0x100#32 } }) (·.rflags == 2#64) &&
    raises (run [0xF2#8, 0x0F#8, 0xAE#8, 0xF1#8] (base.setGpr64 rcx 0x80000000#64)) .gp (some 0#32)) = true := by decide

/-- R393 row 14: either the block of 12345H or no block; row 16. -/
theorem test_umonitor : (gives (run [0xF3#8, 0x0F#8, 0xAE#8, 0xF0#8] (base.setGpr64 rax 0x12345#64)) (fun t =>
    t.rip == 4#64 && t.gpr == (base.setGpr64 rax 0x12345#64).gpr) &&
    raises (run [0x36#8, 0xF3#8, 0x0F#8, 0xAE#8, 0xF0#8] (base.setGpr64 rax 0x800000000000#64)) .ss (some 0#32)) = true := by
  decide

/-! ### GF2P8 (R353) -/

/-- Row 1: bits above 127 are kept. -/
theorem test_gf2p8mulb_sse : gives (run [0x66#8, 0x0F#8, 0x38#8, 0xCF#8, 0xCA#8]
    ((base.setVec 1#5 ((ones <<< 128) ||| 0x53FF0257#512)).setVec 2#5 0xCAFF8083#512))
    (·.vec 1#5 == ((ones <<< 128) ||| 0x01131BC1#512)) = true := by decide

/-- Row 9: alignment of the SSE form; R630 row 11: none of the VEX form. -/
theorem test_gf2p8mulb_alignment : (raises (run [0x66#8, 0x0F#8, 0x38#8, 0xCF#8, 0x08#8] (base.setGpr64 rax 0x1008#64)) .gp
    (some 0#32) && gives (run [0xC4#8, 0xE2#8, 0x79#8, 0xCF#8, 0x08#8] (base.setGpr64 rax 0x1001#64))
      (·.vec 1#5 == 0#512)) = true := by decide

/-- Row 2: zero above 255. -/
theorem test_gf2p8mulb_vex : gives (run [0xC4#8, 0xE2#8, 0x6D#8, 0xCF#8, 0xCB#8]
    (((base.setVec 1#5 ones).setVec 2#5 (rep 8 64 0x57#8)).setVec 3#5 (rep 8 64 0x13#8)))
    (·.vec 1#5 == rep 8 32 0xFE#8) = true := by decide

/-- Rows 3, 4: zeroing and merging per byte. -/
theorem test_gf2p8mulb_mask : (
    let s := (((base.setOpmask 1#3 5#64).setVec 1#5 (rep 8 64 0xAA#8)).setVec 2#5 (rep 8 64 0x02#8)).setVec 3#5
      (rep 8 64 0x80#8)
    gives (run [0x62#8, 0xF2#8, 0x6D#8, 0xC9#8, 0xCF#8, 0xCB#8] s) (·.vec 1#5 == 0x1B001B#512) &&
      gives (run [0x62#8, 0xF2#8, 0x6D#8, 0x49#8, 0xCF#8, 0xCB#8] s)
        (fun t => t.vec 1#5 == lanes 8 64 fun j => if j = 0 ∨ j = 2 then 0x1B#8 else 0xAA#8)) = true := by decide

/-- Row 5. -/
theorem test_affine_sse : gives (run [0x66#8, 0x0F#8, 0x3A#8, 0xCE#8, 0xCA#8, 0xFF#8]
    ((base.setVec 1#5 (rep 64 2 0xA5#64)).setVec 2#5 (rep 64 2 0x0102040810204080#64)))
    (·.vec 1#5 == rep 64 2 0xFFFFFFFFFFFFFF5A#64) = true := by decide

/-- Row 7: broadcast of one quadword. -/
theorem test_affine_broadcast : gives (run [0x62#8, 0xF3#8, 0xED#8, 0x58#8, 0xCE#8, 0x08#8, 0x00#8]
    (bytesAt ((base.setGpr64 rax 0x1000#64).setVec 2#5 (rep 8 64 0xB1#8)) 0x1000
      [0x01#8, 0x02#8, 0x04#8, 0x08#8, 0x10#8, 0x20#8, 0x40#8, 0x80#8])) (·.vec 1#5 == rep 8 64 0x8D#8) = true := by decide

/-- Row 6 (X1: five bytes of the AES S-box). -/
theorem test_affine_inverse : gives (run [0x62#8, 0xF3#8, 0xED#8, 0x48#8, 0xCF#8, 0xCB#8, 0x63#8]
    ((base.setVec 2#5 (rep 64 8 0x000000FF95530100#64)).setVec 3#5 (rep 64 8 0xF1E3C78F1F3E7CF8#64)))
    (·.vec 1#5 == rep 64 8 0x636363162AED7C63#64) = true := by decide

/-- R343: the table of inverses, but for its rows 5 and 6, which the spec prints damaged; there the product is 1. -/
theorem test_inverse_table : (([0, 1, 2, 3, 4, 7, 8, 9, 10, 11, 12, 13, 14, 15].flatMap fun h => (List.range 16).map fun l =>
    (gfInverse (BitVec.ofNat 8 (16 * h + l))).toNat) = [
  0x00, 0x01, 0x8D, 0xF6, 0xCB, 0x52, 0x7B, 0xD1, 0xE8, 0x4F, 0x29, 0xC0, 0xB0, 0xE1, 0xE5, 0xC7,
  0x74, 0xB4, 0xAA, 0x4B, 0x99, 0x2B, 0x60, 0x5F, 0x58, 0x3F, 0xFD, 0xCC, 0xFF, 0x40, 0xEE, 0xB2,
  0x3A, 0x6E, 0x5A, 0xF1, 0x55, 0x4D, 0xA8, 0xC9, 0xC1, 0x0A, 0x98, 0x15, 0x30, 0x44, 0xA2, 0xC2,
  0x2C, 0x45, 0x92, 0x6C, 0xF3, 0x39, 0x66, 0x42, 0xF2, 0x35, 0x20, 0x6F, 0x77, 0xBB, 0x59, 0x19,
  0x1D, 0xFE, 0x37, 0x67, 0x2D, 0x31, 0xF5, 0x69, 0xA7, 0x64, 0xAB, 0x13, 0x54, 0x25, 0xE9, 0x09,
  0x79, 0xB7, 0x97, 0x85, 0x10, 0xB5, 0xBA, 0x3C, 0xB6, 0x70, 0xD0, 0x06, 0xA1, 0xFA, 0x81, 0x82,
  0x83, 0x7E, 0x7F, 0x80, 0x96, 0x73, 0xBE, 0x56, 0x9B, 0x9E, 0x95, 0xD9, 0xF7, 0x02, 0xB9, 0xA4,
  0xDE, 0x6A, 0x32, 0x6D, 0xD8, 0x8A, 0x84, 0x72, 0x2A, 0x14, 0x9F, 0x88, 0xF9, 0xDC, 0x89, 0x9A,
  0xFB, 0x7C, 0x2E, 0xC3, 0x8F, 0xB8, 0x65, 0x48, 0x26, 0xC8, 0x12, 0x4A, 0xCE, 0xE7, 0xD2, 0x62,
  0x0C, 0xE0, 0x1F, 0xEF, 0x11, 0x75, 0x78, 0x71, 0xA5, 0x8E, 0x76, 0x3D, 0xBD, 0xBC, 0x86, 0x57,
  0x0B, 0x28, 0x2F, 0xA3, 0xDA, 0xD4, 0xE4, 0x0F, 0xA9, 0x27, 0x53, 0x04, 0x1B, 0xFC, 0xAC, 0xE6,
  0x7A, 0x07, 0xAE, 0x63, 0xC5, 0xDB, 0xE2, 0xEA, 0x94, 0x8B, 0xC4, 0xD5, 0x9D, 0xF8, 0x90, 0x6B,
  0xB1, 0x0D, 0xD6, 0xEB, 0xC6, 0x0E, 0xCF, 0xAD, 0x08, 0x4E, 0xD7, 0xE3, 0x5D, 0x50, 0x1E, 0xB3,
  0x5B, 0x23, 0x38, 0x34, 0x68, 0x46, 0x03, 0x8C, 0xDD, 0x9C, 0x7D, 0xA0, 0xCD, 0x1A, 0x41, 0x1C] ∧
    (List.range 32).all (fun i => gf2p8mul (BitVec.ofNat 8 (0x50 + i)) (gfInverse (BitVec.ofNat 8 (0x50 + i))) == 1#8) =
      true) := by decide

/-! ### VAES, VPCLMULQDQ (R416, R417) -/

/-- The state of the first vector. -/
def aesState : BitVec 128 := 0x7B5B546573745665_63746F725D53475D#128
/-- Its round key. -/
def aesKey : BitVec 128 := 0x4869285368617929_5B477565726F6E5D#128
/-- State in every lane of register 2, round key in register 3, ones in register 1. -/
def aesBase : State := ((base.setVec 1#5 ones).setVec 2#5 (rep 128 4 aesState)).setVec 3#5 (rep 128 4 aesKey)

theorem test_vaesenc : (gives (run [0xC4#8, 0xE2#8, 0x6D#8, 0xDC#8, 0xCB#8] aesBase)
    (·.vec 1#5 == rep 128 2 0xA8311C2F9FDBA3C58B104B58DED7E595#128)) = true := by decide

theorem test_vaesenclast : (gives (run [0x62#8, 0xF2#8, 0x6D#8, 0x28#8, 0xDD#8, 0xCB#8] aesBase)
    (·.vec 1#5 == rep 128 2 0xC7FB881E938C5964177EC42553FDC611#128)) = true := by decide

theorem test_vaesdec : (gives (run [0x62#8, 0xF2#8, 0x6D#8, 0x48#8, 0xDE#8, 0xCB#8] aesBase)
    (·.vec 1#5 == rep 128 4 0x138AC342FAEA2787B58EB95EB730392A#128)) = true := by decide

theorem test_vaesdeclast : (gives (run [0x62#8, 0xF2#8, 0x6D#8, 0x08#8, 0xDF#8, 0xCB#8] aesBase)
    (·.vec 1#5 == rep 128 1 0xC5A391EF6B317F95D410637B72A593D0#128)) = true := by decide

/-- Masking and broadcast are #UD. -/
theorem test_vaes_illegal : (raises (run [0x62#8, 0xF2#8, 0x6D#8, 0x49#8, 0xDC#8, 0xCB#8] aesBase) .ud none &&
    raises (run [0x62#8, 0xF2#8, 0x6D#8, 0x58#8, 0xDC#8, 0x08#8] aesBase) .ud none) = true := by decide

/-- The example of the AES standard. -/
theorem test_vaes_standard : gives (run [0x62#8, 0xF2#8, 0x6D#8, 0x08#8, 0xDC#8, 0xCB#8]
    ((base.setVec 2#5 (bytesVec ((List.range 16).map fun i => BitVec.ofNat 8 (0x11 * i - i)))).setVec 3#5 (bytesVec
      [0xD6#8, 0xAA#8, 0x74#8, 0xFD#8, 0xD2#8, 0xAF#8, 0x72#8, 0xFA#8, 0xDA#8, 0xA6#8, 0x78#8, 0xF1#8, 0xD6#8, 0xAB#8,
        0x76#8, 0xFE#8]))) (·.vec 1#5 == bytesVec
      [0x89#8, 0xD8#8, 0x10#8, 0xE8#8, 0x85#8, 0x5A#8, 0xCE#8, 0x68#8, 0x2D#8, 0x18#8, 0x43#8, 0xD8#8, 0xCB#8, 0x12#8,
        0x8F#8, 0xE4#8]) = true := by decide

theorem test_vpclmulqdq : (gives (run [0xC4#8, 0xE3#8, 0x6D#8, 0x44#8, 0xCB#8, 0x11#8] aesBase)
      (·.vec 1#5 == rep 128 2 0x1D1E1F2C592E7C45D66EE03E410FD4ED#128) &&
    gives (run [0x62#8, 0xF3#8, 0x6D#8, 0x48#8, 0x44#8, 0xCB#8, 0x01#8] aesBase)
      (·.vec 1#5 == rep 128 4 0x1A2BF6DB3A30862FBABF262DF4B7D5C9#128)) = true := by decide

theorem test_vpclmulqdq_ignored_bits : (gives (run [0x62#8, 0xF3#8, 0x6D#8, 0x08#8, 0x44#8, 0xCB#8, 0xEE#8] aesBase)
      (·.vec 1#5 == rep 128 1 0x1D4D84C85C3440C0929633D5D36F0451#128) &&
    gives (run [0x62#8, 0xF3#8, 0x6D#8, 0x08#8, 0x44#8, 0xCB#8, 0x10#8] aesBase)
      (·.vec 1#5 == rep 128 1 0x1BD17C8D556AB5A17FA540AC2A281315#128)) = true := by decide

/-! ### VBMI2 (R441, R442) -/

/-- Source bytes 10H + j, k1 = A5A5H, register 2 all ones, RAX = 1000H with EEH behind it. -/
def packBase : State :=
  bytesAt (((base.setVec 1#5 (lanes 8 16 fun j => BitVec.ofNat 8 (0x10 + j))).setVec 2#5 ones).setOpmask 1#3
    0xA5A5#64 |>.setGpr64 rax 0x1000#64) 0x1000 (List.replicate 16 0xEE#8)

/-- Rows 1, 2. -/
theorem test_vpcompressb : (gives (run [0x62#8, 0xF2#8, 0x7D#8, 0x89#8, 0x63#8, 0xCA#8] packBase)
      (·.vec 2#5 == 0x1F1D1A1817151210#512) &&
    gives (run [0x62#8, 0xF2#8, 0x7D#8, 0x09#8, 0x63#8, 0xCA#8] packBase)
      (·.vec 2#5 == 0xFFFFFFFFFFFFFFFF1F1D1A1817151210#512)) = true := by decide

/-- Rows 3, 4: exactly eight bytes; none. -/
theorem test_vpcompressb_memory : (gives (run [0x62#8, 0xF2#8, 0x7D#8, 0x09#8, 0x63#8, 0x08#8] packBase) (fun t =>
      (List.range 16).map (t.byte <| 0x1000 + ·) == [0x10#8, 0x12#8, 0x15#8, 0x17#8, 0x18#8, 0x1A#8, 0x1D#8, 0x1F#8] ++
        List.replicate 8 0xEE#8) &&
    gives (run [0x62#8, 0xF2#8, 0x7D#8, 0x09#8, 0x63#8, 0x08#8]
      ((packBase.setOpmask 1#3 0#64).setGpr64 rax 0x800000000000#64)) (·.mem == packBase.mem)) = true := by decide

/-- Rows 6, 7, 12. -/
theorem test_vpcompressb_illegal : ([[0x62#8, 0xF2#8, 0x7D#8, 0x89#8, 0x63#8, 0x08#8],
    [0x62#8, 0xF2#8, 0x75#8, 0x09#8, 0x63#8, 0xCA#8], [0x62#8, 0xF2#8, 0x7D#8, 0x19#8, 0x63#8, 0x08#8]].all
      fun bs => raises (run bs packBase) .ud none) = true := by decide

/-- Row 11: only k1[7:0] is looked at. -/
theorem test_vpcompressw : gives (exec (.vpcompresswReg128 (ev 1 0 1 true false) 2#5)
    ((packBase.setVec 1#5 (lanes 16 8 fun j => BitVec.ofNat 16 (0x100 + j))).setOpmask 1#3 0xFF0A#64))
    (·.vec 2#5 == 0x01030101#512) = true := by decide

/-- Rows 8, 9. -/
theorem test_vpexpandb : (gives (run [0x62#8, 0xF2#8, 0x7D#8, 0x89#8, 0x62#8, 0x08#8]
      (bytesAt packBase 0x1000 ((List.range 8).map fun j => BitVec.ofNat 8 (0xA0 + j))))
      (·.vec 1#5 == 0xA700A60000A500A4A300A20000A100A0#512) &&
    gives (run [0x62#8, 0xF2#8, 0x7D#8, 0x09#8, 0x62#8, 0xCA#8]
      ((packBase.setVec 2#5 (lanes 8 16 fun j => BitVec.ofNat 8 (0xA0 + j))).setVec 1#5 ones))
      (·.vec 1#5 == 0xA7FFA6FFFFA5FFA4A3FFA2FFFFA1FFA0#512)) = true := by decide

/-- D22: the absent page of the lowest element is reported, not the non-canonical address of the ninth. -/
theorem test_vpexpandb_lowest_fault : raises (run [0x62#8, 0xF2#8, 0x7D#8, 0x08#8, 0x62#8, 0x08#8]
    { base.setGpr64 rax 0x7FFFFFFFFFF8#64 with paging := some [] }) .pf (some 0#32) = true := by decide

/-- Row 10: without a mask a copy. -/
theorem test_vpexpandw : gives (run [0x62#8, 0xF2#8, 0xFD#8, 0x08#8, 0x62#8, 0xCA#8] packBase)
    (·.vec 1#5 == BitVec.setWidth 512 (BitVec.allOnes 128)) = true := by decide

/-- One element in registers 1 (old destination), 2 and 3. -/
def three (d a b : Nat) : State :=
  ((base.setVec 1#5 (BitVec.ofNat 512 d)).setVec 2#5 (BitVec.ofNat 512 a)).setVec 3#5 (BitVec.ofNat 512 b)

/-- The low element of register 1 afterwards. -/
def low (w : Nat) (i : Instr) (s : State) (v : BitVec w) : Bool := gives (exec i s) fun t => elem w (t.vec 1#5) 0 == v

/-- Rows 1 to 5. -/
theorem test_vpshld : (let e := ev 1 2 0 false false
    low 16 (.vpshldw128 e (.reg 3#5) 4#8) (three 0 0x1234 0xABCD) 0x234A#16 &&
    low 16 (.vpshldw256 e (.reg 3#5) 16#8) (three 0 0x1234 0xABCD) 0x1234#16 &&
    low 16 (.vpshldw512 e (.reg 3#5) 15#8) (three 0 0x1234 0xABCD) 0x55E6#16 &&
    low 32 (.vpshldd512 e (.reg 3#5) 0x28#8) (three 0 0x12345678 0x9ABCDEF0) 0x3456789A#32 &&
    low 64 (.vpshldq128 e (.reg 3#5) 12#8) (three 0 0x0123456789ABCDEF 0xFEDCBA9876543210) 0x3456789ABCDEFFED#64) = true := by
  decide

/-- Rows 6 to 9. -/
theorem test_vpshrd : (let e := ev 1 2 0 false false
    low 16 (.vpshrdw128 e (.reg 3#5) 4#8) (three 0 0x1234 0xABCD) 0xD123#16 &&
    low 32 (.vpshrdd256 e (.reg 3#5) 8#8) (three 0 0x12345678 0x9ABCDEF0) 0xF0123456#32 &&
    low 64 (.vpshrdq512 e (.reg 3#5) 12#8) (three 0 0x0123456789ABCDEF 0xFEDCBA9876543210) 0x2100123456789ABC#64 &&
    low 64 (.vpshrdq128 e (.reg 3#5) 63#8) (three 0 0x0123456789ABCDEF 0xFEDCBA9876543210) 0xFDB97530ECA86420#64) = true := by
  decide

/-- Rows 10 to 13. -/
theorem test_vpshldv_vpshrdv : (let e := ev 1 2 0 false false
    low 16 (.vpshldvw128 e (.reg 3#5)) (three 0x1234 0xABCD 0x14) 0x234A#16 &&
    low 16 (.vpshrdvw128 e (.reg 3#5)) (three 0x1234 0xABCD 0xFFF4) 0xD123#16 &&
    low 32 (.vpshldvd128 e (.reg 3#5)) (three 0x12345678 0x9ABCDEF0 0x21) 0x2468ACF1#32 &&
    low 64 (.vpshrdvq128 e (.reg 3#5)) (three 0x0123456789ABCDEF 0xFEDCBA9876543210 4) 0x00123456789ABCDE#64) = true := by
  decide

/-- Row 15: broadcast under a mask; row 16: no access where no element is active. -/
theorem test_vpshldd_broadcast : (
    let s := bytesAt (((base.setVec 2#5 0x12345678#512).setOpmask 1#3 1#64).setGpr64
      rax 0x1000#64 |>.setVec 1#5 ones) 0x1000 [0xF0#8, 0xDE#8, 0xBC#8, 0x9A#8]
    gives (run [0x62#8, 0xF3#8, 0x6D#8, 0x59#8, 0x71#8, 0x08#8, 0x08#8] s)
      (·.vec 1#5 == ((ones <<< 32) ||| 0x3456789A#512)) &&
    gives (run [0x62#8, 0xF3#8, 0x6D#8, 0x59#8, 0x71#8, 0x08#8, 0x08#8]
      ((s.setOpmask 1#3 0#64).setGpr64 rax 0x800000000000#64)) (·.vec 1#5 == ones)) = true := by decide

/-! ### VNNI (R472) -/

/-- Rows 2, 4, 5, 6. -/
theorem test_vpdpbusd : (let e := ev 1 2 0 false false
    low 32 (.vpdpbusd128 e (.reg 3#5)) (three 0x10 0xFFFFFFFF 0x7F7F7F7F) 0x0001FA14#32 &&
    low 32 (.vpdpbusd256 e (.reg 3#5)) (three 0x7FFFFFFF 0x01010101 0x01010101) 0x80000003#32 &&
    low 32 (.vpdpbusd512 e (.reg 3#5)) (three 0x64 0x80FF0102 0xFF80FE03) 0xFFFF8068#32 &&
    low 32 (.vpdpbusds128 e (.reg 3#5)) (three 0x7FFFFFFF 0x01010101 0x01010101) 0x7FFFFFFF#32 &&
    low 32 (.vpdpbusds512 e (.reg 3#5)) (three 0x80000000 0xFFFFFFFF 0x80808080) 0x80000000#32) = true := by decide

/-- Rows 8, 9, 11, 12. -/
theorem test_vpdpwssd : (let e := ev 1 2 0 false false
    low 32 (.vpdpwssd128 e (.reg 3#5)) (three 0 0x80008000 0x80008000) 0x80000000#32 &&
    low 32 (.vpdpwssds128 e (.reg 3#5)) (three 0 0x80008000 0x80008000) 0x7FFFFFFF#32 &&
    low 32 (.vpdpwssds256 e (.reg 3#5)) (three 0xFFFFFFFF 0x80008000 0x80008000) 0x7FFFFFFF#32 &&
    low 32 (.vpdpwssds512 e (.reg 3#5)) (three 0x80000000 0x7FFF7FFF 0x80008000) 0x80000000#32 &&
    low 32 (.vpdpwssd512 e (.reg 3#5)) (three 5 0xFFFF0002 0x0003FFFE) 0xFFFFFFFE#32) = true := by decide

/-- W = 1 and broadcast from a register are #UD; with zeroing and no active element nothing is read. -/
theorem test_vpdpbusd_illegal : (raises (run [0x62#8, 0xF2#8, 0xED#8, 0x48#8, 0x50#8, 0xCB#8] base) .ud none &&
    raises (run [0x62#8, 0xF2#8, 0x6D#8, 0x58#8, 0x50#8, 0xCB#8] base) .ud none &&
    gives (run [0x62#8, 0xF2#8, 0x6D#8, 0x99#8, 0x51#8, 0x08#8] ((base.setVec 1#5 ones).setGpr64 rax 0x800000000000#64))
      (·.vec 1#5 == 0#512)) = true := by decide

/-! ### BITALG, VPOPCNTDQ (R487) and the exception classes (R630) -/

/-- Rows 1 to 4. -/
theorem test_vpopcnt : (let e := ev 1 0 0 false false
    low 32 (.vpopcntb128 e (.reg 3#5)) (three 0 0 0x80A5FF00) 0x01040800#32 &&
    low 32 (.vpopcntw128 e (.reg 3#5)) (three 0 0 0x1234FFFF) 0x00050010#32 &&
    low 64 (.vpopcntd128 e (.reg 3#5)) (three 0 0 0x12345678FFFFFFFF) 0x0000000D00000020#64 &&
    low 64 (.vpopcntq128 e (.reg 3#5)) (three 0 0 0x0123456789ABCDEF) 0x20#64) = true := by decide

/-- Rows 7 to 9. -/
theorem test_vpopcnt_forms : (gives (run [0x62#8, 0xF2#8, 0xFD#8, 0x58#8, 0x55#8, 0x08#8]
      (bytesAt (base.setGpr64 rax 0x1000#64) 0x1000
        [0xEF#8, 0xCD#8, 0xAB#8, 0x89#8, 0x67#8, 0x45#8, 0x23#8, 0x01#8])) (·.vec 1#5 == rep 64 8 0x20#64) &&
    raises (run [0x62#8, 0xF2#8, 0x7D#8, 0x58#8, 0x54#8, 0x08#8] base) .ud none &&
    raises (run [0x62#8, 0xF2#8, 0x75#8, 0x48#8, 0x54#8, 0xCA#8] base) .ud none) = true := by decide

/-- Rows 15, 16. -/
theorem test_vpshufbitqmb : (let s := (((base.setVec 2#5 (rep 64 2 0x0123456789ABCDEF#64)).setVec 3#5 (rep 64 2
      0x0706050403020100#64)).setOpmask 2#3 0x0F0F#64).setOpmask 1#3 (BitVec.allOnes 64)
    gives (run [0x62#8, 0xF2#8, 0x6D#8, 0x0A#8, 0x8F#8, 0xCB#8] s) (·.opmask 1#3 == 0x0F0F#64) &&
    gives (run [0x62#8, 0xF2#8, 0x6D#8, 0x08#8, 0x8F#8, 0xCB#8] s) (·.opmask 1#3 == 0xEFEF#64)) = true := by decide

/-- Rows 11, 17, 18. -/
theorem test_vpshufbitqmb_control : (gives (exec (.vpshufbitqmb512 (ev 1 2 0 false false) (.reg 3#5))
      (three 0 0x8000000000000001 0x3F007F40C0800100)) (fun t => elem 8 ((t.opmask 1#3).setWidth 512) 0 == 0xFD#8) &&
    raises (run [0x62#8, 0x72#8, 0x6D#8, 0x48#8, 0x8F#8, 0xCB#8] base) .ud none &&
    raises (run [0x62#8, 0xF2#8, 0x6D#8, 0x8A#8, 0x8F#8, 0xCB#8] base) .ud none) = true := by decide

/-- R630 rows 2 to 4: XCR0, CR0.TS, the feature before CR0.TS. -/
theorem test_exception_order : (let bs := [0x62#8, 0xF2#8, 0x7D#8, 0x48#8, 0x54#8, 0xCA#8]
    let ts := { base with sys := { base.sys with cr0 := base.sys.cr0 ||| 8#64 } }
    raises (run bs { base with sys := { base.sys with xcr0 := 7#64 } }) .ud none && raises (run bs ts) .nm none &&
      raises (run bs { ts with cfg := { ts.cfg with features := { ts.cfg.features with bitalg := false } } }) .ud none) =
    true := by decide

/-- R630 rows 5 to 9: a page at 1000H is present, the next is not. -/
theorem test_page_faults : (let s := { base.setGpr64 rax 0x2000#64 with paging := some [{ page := 1, paBase := 0x1000, writable := true, user := true, executable := true, accessed := false, dirty := false }] }
    raises (run [0x62#8, 0xF2#8, 0x7D#8, 0x48#8, 0x54#8, 0x08#8] (s.setGpr64 rax 0x1FC1#64)) .pf (some 0#32) &&
    raises (run [0x62#8, 0xF3#8, 0xFD#8, 0x49#8, 0xCE#8, 0x08#8, 0x00#8] s) .pf (some 0#32) &&
    gives (run [0x62#8, 0xF2#8, 0x7D#8, 0x49#8, 0xCF#8, 0x08#8] s) (·.paging == s.paging) &&
    gives (run [0x62#8, 0xF2#8, 0x7D#8, 0x49#8, 0x54#8, 0x08#8] (s.setGpr64 rax 0x800000000000#64)) (·.vec 1#5 == 0#512) &&
    raises (run [0x62#8, 0xF2#8, 0x7D#8, 0x49#8, 0x54#8, 0x08#8] ((s.setGpr64 rax 0x800000000000#64).setOpmask 1#3 1#64))
      .gp (some 0#32)) = true := by decide

/-! ### Sub-page permissions (R522), VM transitions (R558), hardware feedback (R582), split locks (R594) -/

/-- The set-up of R522: SPPTP = 100000H, four levels, guest page 1000H with SPP, L1E = 5. -/
def sppBase : State :=
  { bytesAt (bytesAt (bytesAt (bytesAt base 0x100000 [1#8, 0#8, 0x20#8]) 0x200000
      [1#8, 0#8, 0x30#8]) 0x300000 [1#8, 0#8, 0x40#8]) 0x400008 [5#8] with
    cfg := { base.cfg with physAddrBits := 46 }
    vmx := { base.vmx with
      mode := .nonRoot
      vmcs := { base.vmx.vmcs with
        primaryCtl := 0x80000000#32, secondaryCtl := 0x800000#32, enableEpt := true, spptp := 0x100000#64 }
      ept := [{ gpaBase := 0x1000, paBase := 0x1000, size := .k4, misconfigured := false, read := true, execute := true
                accW := false, spp := true }] } }

/-- A write of `n` bytes at a guest-physical address in some state. -/
def sppTry (s : State) (gpa n : Nat) : Except Stop (List Nat × State) :=
  locate s Access.store .ds (BitVec.ofNat 64 gpa) n

/-- Is the write allowed? -/
def allowed (r : Except Stop (List Nat × State)) : Bool := match r with | .ok _ => true | .error _ => false

/-- The reason and the qualification bits 12:11 of the VM exit the write causes. -/
def exits (r : Except Stop (List Nat × State)) : Option (ExitReason × Bool) :=
  match r with
  | .error (.exit t) => some (t.vmx.vmcs.exitReason, t.vmx.vmcs.exitQualification.getLsbD 11)
  | _ => none

/-- Rows 1 to 5. -/
theorem test_spp_regions : (allowed (sppTry sppBase 0x1000 4) && allowed (sppTry sppBase 0x10FC 4) &&
    allowed (sppTry sppBase 0x107C 8) && ((exits (sppTry sppBase 0x1100 4)).map (·.1) == some .eptViolation) &&
    ((exits (sppTry sppBase 0x10FC 8)).map (·.1) == some .eptViolation)) = true := by decide

/-- Rows 9 to 12. -/
theorem test_spp_walk : (exits (sppTry (bytesAt sppBase 0x200000 [0#8, 0#8, 0#8]) 0x1000 4) = some (.sppInduced, true) ∧
    exits (sppTry (bytesAt sppBase 0x300000 [3#8]) 0x1000 4) = some (.sppInduced, false) ∧
    exits (sppTry (bytesAt sppBase 0x400008 [7#8]) 0x1000 4) = some (.sppInduced, false) ∧
    exits (sppTry (bytesAt sppBase 0x100005 [0x40#8]) 0x1000 4) = some (.sppInduced, false)) := by decide

/-- R517: an entry one lookup cached may serve a later lookup of its own page under the same SPPTP, and of no other. -/
theorem test_spp_cache : (
    let s := sppBase.sppKeep 0x1000 1 5#64
    (sppEntry s 0x2000 1 0x400010).2.draws = s.draws ∧ (sppEntry s 0x1FF0 1 0x400008).2.draws = s.draws + 1 ∧
      (sppEntry { s with vmx := { s.vmx with vmcs := { s.vmx.vmcs with spptp := 0#64 } } } 0x1000 1 0x400008).2.draws =
        s.draws) := by decide

/-- R522 row 15; R558 row 4: what a failed VM entry leaves. -/
theorem test_vm_entry : (gives (step { sppBase with
      vmx := { sppBase.vmx with mode := .root, vmcs := { sppBase.vmx.vmcs with enableEpt := false } }
      inputs := [.vmEntry 3] })
      (fun t => t.vmx.vmcs.vmInstructionError == 7#32 && t.rip == 3#64) &&
    gives (step { base with
      vmx := { base.vmx with mode := .root, vmcs := { base.vmx.vmcs with entryCtl := 0x40000#32 } }
      msr := { base.msr with rtitCtl := 1#64 }, inputs := [.vmEntry 3] })
      (·.vmx.vmcs.exitReason == .invalidGuestState)) = true := by decide

/-- R558 row 1: IA32_RTIT_CTL saved and cleared on a VM exit. -/
theorem test_vm_exit : (let t := { base with
      msr := { base.msr with rtitCtl := 0x2001#64 }
      vmx := { base.vmx with vmcs := { base.vmx.vmcs with exitCtl := 0x2000000#32 } } }.vmExit .other 0#64
    t.vmx.vmcs.guestRtitCtl = 0x2001#64 ∧ t.msr.rtitCtl = 0#64 ∧ t.vmx.mode = .root) := by decide

/-- Rows 3 and 4 of R582: an update of row 3 at 12345000H, and none while the status bit is set. -/
def hfiBaseState : State :=
  { base with
    cfg := { base.cfg with hfiRowIndex := 3 }
    msr := { base.msr with hwFeedbackPtr := 0x12345001#64, hwFeedbackConfig := 1#64 } }

theorem test_hfi_update : (
    let u := fun s => hfiUpdate s 0 [{ row := 3, perf := some 0x80#8, energy := some 0x40#8 }] 5#64 false false
    (u hfiBaseState).mem = [(0x12345000, 5#8), (0x12345008, 1#8), (0x12345009, 1#8), (0x12345028, 0x80#8),
        (0x12345029, 0x40#8)] ∧ (u hfiBaseState).msr.packageThermStatus = 0x4000000#64 ∧
      (u { hfiBaseState with msr := { hfiBaseState.msr with packageThermStatus := 0x4000000#64 } }).mem = []) := by decide

/-- Rows 5 to 7 of R582: the status bit under writes, the disabling. -/
theorem test_hfi_handshake : (let set := { hfiBaseState with
      msr := { hfiBaseState.msr with packageThermStatus := 0x4000000#64 } }
    (setMsr set .packageThermStatus 0x4000000#64).msr.packageThermStatus = 0x4000000#64 ∧
      (setMsr set .packageThermStatus 0#64).msr.packageThermStatus = 0#64 ∧
      (setMsr hfiBaseState .packageThermStatus 0x4000000#64).msr.packageThermStatus = 0#64 ∧
      (hfiAcknowledge (setMsr hfiBaseState .hwFeedbackConfig 0#64)).msr.packageThermStatus = 0x4000000#64) := by decide

/-- R576: after Enable goes from 1 to 0 an update in progress may still land; it is the acknowledgement, and once the
status bit is cleared no further write comes. -/
theorem test_hfi_disable : (
    let u := fun s => hfiUpdate s 0 [{ row := 3, perf := some 0x80#8, energy := none }] 5#64 false false
    let off := u (setMsr hfiBaseState .hwFeedbackConfig 0#64)
    let cleared := setMsr off .packageThermStatus 0#64
    off.byte 0x12345028 = 0x80#8 ∧ off.hfi.disabling = false ∧ hfiTargets cleared = [] ∧
      hfiTargets (setMsr hfiBaseState .hwFeedbackPtr 0x23456001#64) = [0x23456000, 0x23456000, 0x12345000]) := by decide

/-- Rows 1, 3, 5 and 6 of R594. -/
theorem test_split_lock : (let s := fun v la => step { base with
      msr := { base.msr with testCtl := v }, inputs := [.lockedAccess .ds la [1#8, 2#8, 3#8, 4#8]] }
    gives (s 0x20000000#32 0x1000#64) (fun _ => true) && raises (s 0x20000000#32 0x103E#64) .ac (some 0#32) &&
      raises (s 0xA0000000#32 0x103E#64) .ac (some 0#32) && gives (s 0x80000000#32 0x103E#64) (fun _ => true) &&
      gives (s 0x20000000#32 0x103C#64) (fun _ => true)) = true := by decide

/-- R592: the line is the one CPUID reports, 96 bytes here: an access over 64H splits no line, one over 60H does. -/
theorem test_split_lock_line : (let s := { base with cfg := { base.cfg with clflushLineBytes := 100 } }
    (cpuidAnswer s 1#32 0#32).ebx.extractLsb' 8 8 = 12#8 ∧ splitsLine s 0x62#64 4 = false ∧
      splitsLine s 0x5E#64 4 = true) := by decide

/-- 60_exceptions.md R601: in real-address mode no error code is pushed. -/
theorem test_split_lock_real : raises (step { base with
      sys := { base.sys with cr0 := 0#64, efer := 0#64 }, msr := { base.msr with testCtl := 0x20000000#32 }
      inputs := [.lockedAccess .ds 0x103E#64 [1#8, 2#8, 3#8, 4#8]] }) .ac none = true := by decide

/-- 41_cpuid_leaves.md R278, R285: IA32_XSS and the Intel PT registers are there only where their CPUID bits say so, and
BOOT_NT4 takes none away. -/
theorem test_msr_presence : (
    let s : State := { base with
      cfg := { base.cfg with cpuid := [cpuidRow 6 0 0 0 8 0, cpuidRow 0xD 1 8 0 0x100 0, cpuidRow 0x14 0 0 1 0 0] }
      msr := { base.msr with miscEnable := 0x400000#64 } }
    msrLegal s .xss 0x100#64 = true ∧ msrLegal s .xss 0x200#64 = false ∧ msrLegal base .xss 0#64 = false ∧
      msrLegal s .rtitCr3Match 1#64 = true ∧ msrLegal s .rtitOutputBase 1#64 = false ∧
      msrLegal base .rtitOutputBase 1#64 = true ∧ msrLegal s .energyPerfBias 6#64 = true) := by decide

/-- 51_intel_pt_vmx.md R548 to R550: a PT-output exit straight after a VM entry keeps the entry's event; after a WRMSR of
the guest it is not straight after it. -/
theorem test_pt_exit : (
    let s : State := { base with vmx := { base.vmx with
      mode := .nonRoot, justEntered := true, vmcs := { base.vmx.vmcs with entryInterruptionInfo := 0x80000030#32 } } }
    (ptExit s .eptViolation 0x5000).vmx.vmcs.idtVectoringInfo = 0x80000030#32 ∧
      (ptExit s .eptViolation 0x5000).vmx.vmcs.guestPhysicalAddress = 0x5000#64 ∧
      gives (step { s with inputs := [.wrmsr .rtitCr3Match 1#64] }) (fun t => !t.vmx.justEntered) = true) := by decide

/-! ### Modes, widths, enclaves, exit reasons -/

/-- An operation gave a value. -/
def isOk {α β : Type} (r : Except α β) : Bool :=
  match r with
  | .ok _ => true
  | .error _ => false

/-- R172, R174, R204: outside 64-bit mode bit 3 of EVEX.vvvv is ignored; V' = 1 is #UD on bytes that select a row; bytes
that select none stay outside the spec. -/
theorem test_evex_outside_long : (let d := decode ⟨false, true⟩
    d [0x62#8, 0xF2#8, 0x3D#8, 0x08#8, 0x8F#8, 0xC1#8] = .instr (.vpshufbitqmb128 (ev 0 0 0 false false) (.reg 1#5)) 6 ∧
      d [0x62#8, 0xF2#8, 0x7D#8, 0x00#8, 0x8F#8, 0xC1#8] = .undefined ∧
      d [0x62#8, 0xF2#8, 0x3D#8, 0x08#8, 0x54#8, 0xC1#8] = .undefined ∧
      d [0x62#8, 0xF1#8, 0x7D#8, 0x40#8, 0xFE#8, 0xC0#8] = .noMatch .noRow) := by decide

/-- R611, R624: beyond FFFFH through SS a legacy-SSE operand is #SS in virtual-8086 mode and #GP in real-address mode;
R369: pages count neither in real-address mode nor with CR0.PG = 0. -/
theorem test_real_and_v86 : (let v86 := { base with sys := { base.sys with efer := 0#64 }, rflags := 0x20002#64 }
    let real := { base with sys := { base.sys with cr0 := 0#64, efer := 0#64 }, paging := some [] }
    formFault v86 (wholeLoad .sse) .ss 0xFFF1#64 16 = some .ss ∧
      formFault real (wholeLoad .sse) .ss 0xFFF1#64 16 = some .gp ∧
      formFault v86 Access.load .ss 0xFFF1#64 16 = some .gp ∧ isOk (translate real .read 0#64) = true) := by decide

/-- Table 3-4, note 5 (R515, R620): an enclave's access outside the EPC is #PF, with P, U/S and SGX in the code;
R500: without EPT nothing of this applies. -/
theorem test_enclave : (let off := { user with
      cfg := { user.cfg with enclaveRanges := [(0x1000, 0x1000)] }, vmx := { user.vmx with enclaveMode := true } }
    let s := { off with vmx := { off.vmx with
      mode := .nonRoot, vmcs := { off.vmx.vmcs with enableEpt := true }
      ept := [{ gpaBase := 0, paBase := 0, size := .m2, misconfigured := false, read := true, execute := true
                accW := true, spp := false }] } }
    (match locate s Access.load .ds 0x1008#64 8 with
     | .error (.fault (.exception .pf c _)) => c == some 0x8005#32
     | _ => false) = true ∧ isOk (locate s Access.load .ds 0x2000#64 8) = true ∧
      isOk (locate off Access.load .ds 0x1008#64 8) = true) := by decide

/-- D30: the host supplies `in_enclave_mode`. -/
theorem test_enclave_mode : (let s := setEnclaveMode base true
    s.vmx.enclaveMode = true ∧ (setVmx s .root s.vmx.vmcs [] none).vmx.enclaveMode = true ∧
      (setEnclaveMode s false).vmx.enclaveMode = false) := by decide

/-- R607: the numbers the table states, and bit 31 of a failed VM entry. -/
theorem test_exit_reasons : ((Vmcs.exitReasonField { Vmcs.zero with exitReason := .sppInduced }) = some 66#32 ∧
    (Vmcs.exitReasonField { Vmcs.zero with exitReason := .vmfunc }) = some 59#32 ∧
    (Vmcs.exitReasonField { Vmcs.zero with exitReason := .invalidGuestState, entryFailure := true }) =
      some 0x80000021#32) := by decide

/-- R262, R276: from the first null type on, leaf 04H is 0 above it and leaf 0BH has type 0; R290: a null sub-leaf is 0. -/
theorem test_cpuid_lists : (let s := { base with cfg := { base.cfg with cpuid :=
      [cpuidRow 4 0 0x04000021 1 2 3, cpuidRow 4 2 0x08000043 1 2 3, cpuidRow 0xB 0 1 2 0x100 7,
        cpuidRow 0xB 2 1 2 0x200 9, cpuidRow 0x18 0 2 1 1 1, cpuidRow 0x18 1 0 1 1 0] } }
    cpuidAnswer s 4#32 0#32 = { eax := 0x04000021#32, ebx := 1#32, ecx := 2#32, edx := 3#32 } ∧
      cpuidAnswer s 4#32 2#32 = CpuidOut.zero ∧
      cpuidAnswer s 0xB#32 2#32 = { eax := 0#32, ebx := 0#32, ecx := 2#32, edx := 7#32 } ∧
      cpuidAnswer s 0x18#32 1#32 = CpuidOut.zero) := by decide

/-- 00_scope.md R8: a processor without AVX has registers of 128 bits. -/
theorem test_max_vl : (let s := { base with cfg := { base.cfg with features :=
      { base.cfg.features with avx512f := false, avx := false } } }
    (s.setVec 1#5 (BitVec.allOnes 512)).vec 1#5 = BitVec.allOnes 512 >>> 384 ∧
      (base.setVec 1#5 (BitVec.allOnes 512)).vec 1#5 = BitVec.allOnes 512) := by decide

/-! ## For every statement with hypotheses, operands that meet them -/

/-- The hypotheses of an EVEX row's statement hold: for registers, under a mask, with memory, with broadcast where the row
has it. -/
def evexMeets (mk : Evex → Rm → Instr) : Bool :=
  match (mk (ev 1 0 0 false false) (.reg 3#5)).vecRow with
  | none => false
  | some r =>
    let v := if r.nds then 2 else 0
    let k := if r.masking = Masking.none then 0 else 1
    let plain : List (Evex × Rm) := [(ev 1 v 0 false false, .reg 3#5),
      (ev 1 v k (decide (r.masking = Masking.mergeZero)) false, .reg 31#5), (ev 1 v k false false, .mem (.base 0#4 .none))]
    let bcast : List (Evex × Rm) := if r.bcast = 0 then [] else [(ev 1 v k false true, .mem (.base 0#4 (.d8 1#8)))]
    (plain ++ bcast).all fun p =>
      decide ((mk p.1 p.2).vecRow = some r) && isOk (vecReady packBase r (evexLegal r p.1 p.2.isMem)) &&
        isOk (vecSrc packBase r p.1.pfx p.1.b (active packBase p.1.aaa) p.2)

/-- The same for a VEX row. -/
def vexMeets (mk : Vex → Rm → Instr) : Bool :=
  [Rm.reg 15#5, .mem (.base 0#4 .none)].all fun rm =>
    match (mk (vx 1 2) rm).vecRow with
    | none => false
    | some r => decide (r.vl ≤ maxVl packBase.cfg) && isOk (vecReady packBase r true) &&
        isOk (vecSrc packBase r Pfx.none false (fun _ => true) rm)

/-- The same for a legacy-SSE row. -/
def sseMeets (mk : Pfx → GReg → Rm → Instr) : Bool :=
  [Rm.reg 15#5, .mem (.base 0#4 .none)].all fun rm =>
    match (mk Pfx.none 1#4 rm).vecRow with
    | none => false
    | some r => isOk (vecReady packBase r true) && isOk (vecSrc packBase r Pfx.none false (fun _ => true) rm)

/-- Every row of the statement has operands that meet its hypotheses: registers, memory, masks, broadcast. -/
theorem witness_GfniAffineResults :
    (([fun e rm => .vgf2p8affineqb128 e rm 0x1B#8, fun e rm => .vgf2p8affineqb256 e rm 0x1B#8, fun e rm => .vgf2p8affineqb512 e rm 0x1B#8] : List _).all evexMeets &&
      ([fun v rm => .vgf2p8affineqbVex128 v rm 0x1B#8, fun v rm => .vgf2p8affineqbVex256 v rm 0x1B#8] : List _).all vexMeets &&
      ([fun p x rm => .gf2p8affineqb p x rm 0x1B#8] : List _).all sseMeets) = true := by decide

/-- Every row of the statement has operands that meet its hypotheses: registers, memory, masks, broadcast. -/
theorem witness_GfniAffineInverseResults :
    (([fun e rm => .vgf2p8affineinvqb128 e rm 0x1B#8, fun e rm => .vgf2p8affineinvqb256 e rm 0x1B#8, fun e rm => .vgf2p8affineinvqb512 e rm 0x1B#8] : List _).all evexMeets &&
      ([fun v rm => .vgf2p8affineinvqbVex128 v rm 0x1B#8, fun v rm => .vgf2p8affineinvqbVex256 v rm 0x1B#8] : List _).all vexMeets &&
      ([fun p x rm => .gf2p8affineinvqb p x rm 0x1B#8] : List _).all sseMeets) = true := by decide

/-- Every row of the statement has operands that meet its hypotheses: registers, memory, masks, broadcast. -/
theorem witness_GfniMulResults :
    (([.vgf2p8mulb128, .vgf2p8mulb256, .vgf2p8mulb512] : List _).all evexMeets &&
      ([.vgf2p8mulbVex128, .vgf2p8mulbVex256] : List _).all vexMeets &&
      ([.gf2p8mulb] : List _).all sseMeets) = true := by decide

/-- Every row of the statement has operands that meet its hypotheses: registers, memory, masks, broadcast. -/
theorem witness_AesResults :
    (([.vaesdec128, .vaesdec256, .vaesdec512, .vaesdeclast128, .vaesdeclast256, .vaesdeclast512, .vaesenc128, .vaesenc256, .vaesenc512, .vaesenclast128, .vaesenclast256, .vaesenclast512] : List _).all evexMeets &&
      ([.vaesdecVex256, .vaesdeclastVex256, .vaesencVex256, .vaesenclastVex256] : List _).all vexMeets) = true := by decide

/-- Every row of the statement has operands that meet its hypotheses: registers, memory, masks, broadcast. -/
theorem witness_PclmulResults :
    (([fun e rm => .vpclmulqdq128 e rm 0x1B#8, fun e rm => .vpclmulqdq256 e rm 0x1B#8, fun e rm => .vpclmulqdq512 e rm 0x1B#8] : List _).all evexMeets &&
      ([fun v rm => .vpclmulqdqVex256 v rm 0x1B#8] : List _).all vexMeets) = true := by decide

/-- Every row of the statement has operands that meet its hypotheses: registers, memory, masks, broadcast. -/
theorem witness_ConcatShiftResults :
    (([.vpshldvw128, .vpshldvw256, .vpshldvw512, .vpshldvd128, .vpshldvd256, .vpshldvd512, .vpshldvq128, .vpshldvq256, .vpshldvq512, .vpshrdvw128, .vpshrdvw256, .vpshrdvw512, .vpshrdvd128, .vpshrdvd256, .vpshrdvd512, .vpshrdvq128, .vpshrdvq256, .vpshrdvq512] : List _).all evexMeets &&
      ([fun e rm => .vpshldw128 e rm 0x1B#8, fun e rm => .vpshldw256 e rm 0x1B#8, fun e rm => .vpshldw512 e rm 0x1B#8, fun e rm => .vpshldd128 e rm 0x1B#8, fun e rm => .vpshldd256 e rm 0x1B#8, fun e rm => .vpshldd512 e rm 0x1B#8, fun e rm => .vpshldq128 e rm 0x1B#8, fun e rm => .vpshldq256 e rm 0x1B#8, fun e rm => .vpshldq512 e rm 0x1B#8, fun e rm => .vpshrdw128 e rm 0x1B#8, fun e rm => .vpshrdw256 e rm 0x1B#8, fun e rm => .vpshrdw512 e rm 0x1B#8, fun e rm => .vpshrdd128 e rm 0x1B#8, fun e rm => .vpshrdd256 e rm 0x1B#8, fun e rm => .vpshrdd512 e rm 0x1B#8, fun e rm => .vpshrdq128 e rm 0x1B#8, fun e rm => .vpshrdq256 e rm 0x1B#8, fun e rm => .vpshrdq512 e rm 0x1B#8] : List _).all evexMeets) = true := by decide

/-- Every row of the statement has operands that meet its hypotheses: registers, memory, masks, broadcast. -/
theorem witness_DotProductResults :
    (([.vpdpbusd128, .vpdpbusd256, .vpdpbusd512, .vpdpwssd128, .vpdpwssd256, .vpdpwssd512] : List _).all evexMeets) = true := by decide

/-- Every row of the statement has operands that meet its hypotheses: registers, memory, masks, broadcast. -/
theorem witness_SaturatingDotProductResults :
    (([.vpdpbusds128, .vpdpbusds256, .vpdpbusds512, .vpdpwssds128, .vpdpwssds256, .vpdpwssds512] : List _).all evexMeets) = true := by decide

/-- Every row of the statement has operands that meet its hypotheses: registers, memory, masks, broadcast. -/
theorem witness_PopcountResults :
    (([.vpopcntb128, .vpopcntb256, .vpopcntb512, .vpopcntw128, .vpopcntw256, .vpopcntw512, .vpopcntd128, .vpopcntd256, .vpopcntd512, .vpopcntq128, .vpopcntq256, .vpopcntq512] : List _).all evexMeets) = true := by decide

/-- Every row of the statement has operands that meet its hypotheses: registers, memory, masks, broadcast. -/
theorem witness_ShuffleBitResults :
    (([.vpshufbitqmb128, .vpshufbitqmb256, .vpshufbitqmb512] : List _).all evexMeets) = true := by decide

theorem witness_DecodeOfEncode :
    ((Instr.vpshldd512 (ev 31 16 7 true true) (.mem (.base 15#4 (.d8 0x80#8))) 0xFF#8).wellFormed .long &&
      (Instr.cldemote { Pfx.none with addr67 := true, seg := some .gs } (.a16 7#3 (.d16 0xFFFF#16))).wellFormed
        ⟨false, true⟩) = true := by decide

/-- CPUID at RIP. -/
def atCpuid : State := base.withFetchWord 16 0xA20F

theorem witness_StepRunsDecoded : atCpuid.vmx.handedOver = false ∧ atCpuid.inputs = [] ∧
    decode atCpuid.tick.decodeMode (fetchBytes atCpuid.tick).1 = .instr (.cpuid Pfx.none) 2 := by decide

/-- A store to the last byte there is, whenever it lands. -/
theorem witness_StepRunsDecoded_meanwhile : atCpuid.vmx.handedOver = false ∧
    0xFFFFFFFFFFFFF + 1 ≤ 2 ^ atCpuid.cfg.maxPhyAddr ∧
    let u := atCpuid.storeEarly 0xFFFFFFFFFFFFF [1#8]
    decode u.tick.decodeMode (fetchBytes u.tick).1 = .instr (.cpuid Pfx.none) 2 := by
  refine ⟨by decide, by decide, ?_⟩
  have h : landing atCpuid true 0xFFFFFFFFFFFFF [1#8] = [] ∨
      landing atCpuid true 0xFFFFFFFFFFFFF [1#8] = [(0xFFFFFFFFFFFFF, 1#8)] := by
    unfold landing
    cases Config.drawBool (atCpuid.draws + 0) <;> simp [List.range_succ]
  unfold State.storeEarly
  rcases h with h | h <;> rw [h] <;> decide

/-- R108, D9: a load that runs while another agent stores finds each byte as it was or as it is stored. -/
theorem test_store_meanwhile :
    (∃ b ∈ [0#8, 1#8], ∃ c ∈ [0#8, 2#8],
      (base.storeEarly 0x1000 [1#8, 2#8]).byte 0x1000 = b ∧ (base.storeEarly 0x1000 [1#8, 2#8]).byte 0x1001 = c) := by
  have h0 := base.storeEarly_byte 0x1000 [1#8, 2#8] (by decide) 0 (by decide)
  have h1 := base.storeEarly_byte 0x1000 [1#8, 2#8] (by decide) 1 (by decide)
  refine ⟨_, ?_, _, ?_, rfl, rfl⟩
  · rw [show (0x1000 : Nat) = 0x1000 + 0 from rfl, h0]; split <;> decide
  · rw [show (0x1001 : Nat) = 0x1000 + 1 from rfl, h1]; split <;> decide

/-- CPUID in the last 15 canonical bytes of the lower half. -/
def atTop : State := State.withFetchWord { base with rip := 0x7FFFFFFFFFF1#64 } 16 0xA20F

theorem witness_StepRunsEncoded : atTop.Flat ∧ atTop.vmx.handedOver = false ∧ atTop.inputs = [] ∧ atTop.stale = [] ∧
    CanonicalRange atTop atTop.rip 15 ∧ (Instr.cpuid Pfx.none).wellFormed .long = true ∧ atTop.sys.cs.d = false ∧
    ∀ k, k < (encode (.cpuid Pfx.none)).length →
      atTop.byte (atTop.physical (atTop.rip + BitVec.ofNat 64 k).toNat) = (encode (.cpuid Pfx.none)).getD k 0#8 := by
  unfold State.Flat CanonicalRange; decide

theorem witness_ResetAndInitValues : ∃ s t : State, t = State.reset ∨ t = resetEvent s := ⟨base, State.reset, .inl rfl⟩

/-- A state with memory, a key, a monitor and an input. -/
def busy : State :=
  { base with
    mem := [(5, 1#8)], keyTable := [(1, { KeySlot.initial with dataKey := 1#128 })], monitor := some 0x40
    inputs := [.setPaging none] }

theorem witness_InvariantKept : ∃ s t : State, s.Inv ∧ step s = .next t :=
  ⟨busy, _, ⟨by decide, by decide, ⟨by decide, by decide⟩, by decide, (fun b h => by cases h; decide),
    ⟨(fun m => by cases m <;> decide), by decide⟩, by decide, by decide⟩, rfl⟩

theorem witness_ConfigurationFixed : ∃ s t : State, step s = .next t := ⟨busy, _, rfl⟩

theorem witness_TscNeverDecreases : ∃ s t : State, step s = .next t ∧ s.inputs.head? ≠ some .reset ∧
    s.inputs.head? ≠ some .init := ⟨busy, _, rfl, by decide, by decide⟩

theorem witness_ForbiddenPrefixFaults : (Instr.vpopcntb512 { ev 1 0 0 false false with
    pfx := { Pfx.none with forbidden := true } } (.reg 2#5)).pfx.forbidden = true := by decide

/-- Each clause: a row that is not available, CR0.TS = 1, a next state. -/
theorem witness_VectorNeedsEnabledState : (let i := Instr.vpopcntb512 (ev 1 0 0 false false) (.reg 2#5)
    ∃ r, i.vecRow = some r ∧
      (hasAll { base with sys := { base.sys with xcr0 := 0x67#64 } } r.cell &&
        stateEnabled { base with sys := { base.sys with xcr0 := 0x67#64 } } r.form) = false ∧
      bit ({ base with sys := { base.sys with cr0 := 0x80000009#64 } } : State).sys.cr0 3 = true ∧
      gives (exec i base) (fun _ => true) = true) := ⟨_, rfl, by decide, by decide, by decide⟩

theorem witness_RflagsWriters : ∃ (i : Instr) (s t : State), exec i s = .next t ∧ (∀ p, i ≠ .pconfig p) ∧
    (∀ p r, i ≠ .tpause p r) ∧ (∀ p r, i ≠ .umwait p r) := ⟨.cldemote Pfx.none (.base 0#4 .none), base, _, rfl, by simp⟩

theorem witness_GprWriters : gives (exec (.cpuid Pfx.none) base) (fun t => decide (t.gpr64 rbx ≠ base.gpr64 rbx)) = true ∧
    gives (exec (.pconfig Pfx.none) (keyed 16 0 1)) (fun t => decide (t.gpr64 rax ≠ (keyed 16 0 1).gpr64 rax)) = true := by
  decide

theorem witness_SystemStateKept : base.vmx.handedOver = false ∧
    gives (exec (.cpuid Pfx.none) base) (fun t => !t.vmx.handedOver) = true := by decide

theorem witness_MemoryWriters : ∃ (i : Instr) (s t : State), exec i s = .next t ∧
    (∀ p r m, i ≠ .movdiri32 p r m) ∧ (∀ p r m, i ≠ .movdiri64 p r m) ∧ (∀ p r m, i ≠ .movdir64b p r m) ∧
    (∀ e m, i ≠ .vpcompressbMem128 e m) ∧ (∀ e m, i ≠ .vpcompressbMem256 e m) ∧ (∀ e m, i ≠ .vpcompressbMem512 e m) ∧
    (∀ e m, i ≠ .vpcompresswMem128 e m) ∧ (∀ e m, i ≠ .vpcompresswMem256 e m) ∧ (∀ e m, i ≠ .vpcompresswMem512 e m) :=
  ⟨.cldemote Pfx.none (.base 0#4 .none), base, _, rfl, by simp⟩

theorem witness_OpmaskWriters : ∃ (i : Instr) (s t : State), exec i s = .next t ∧
    (∀ e rm, i ≠ .vpshufbitqmb128 e rm) ∧ (∀ e rm, i ≠ .vpshufbitqmb256 e rm) ∧ (∀ e rm, i ≠ .vpshufbitqmb512 e rm) :=
  ⟨.cldemote Pfx.none (.base 0#4 .none), base, _, rfl, by simp⟩

/-- A PCONFIG that leaves the guest. -/
def exiting : State :=
  { base with vmx := { base.vmx with
      mode := .nonRoot, vmcs := { base.vmx.vmcs with pconfigEnable := true, pconfigExiting := 1#64 } } }

/-- Both ways an instruction ends. -/
theorem witness_RipAdvances : base.vmx.handedOver = false ∧ exiting.vmx.handedOver = false ∧
    gives (exec (.cpuid Pfx.none) base) (fun t => !t.vmx.handedOver) = true ∧
    gives (exec (.pconfig Pfx.none) exiting) (fun t => t.vmx.handedOver) = true := by decide

/-- The rows of the two register statements, with and without a mask. -/
def packMeets (mk : Evex → VReg → Instr) : Bool :=
  [ev 1 0 0 false false, ev 31 0 1 true false, ev 1 0 7 false false].all fun e =>
    match (mk e 2#5).vecRow with
    | none => false
    | some r => isOk (vecReady packBase r (evexLegal r e false))

theorem witness_CompressRegister : [Instr.vpcompressbReg128, .vpcompressbReg256, .vpcompressbReg512, .vpcompresswReg128,
    .vpcompresswReg256, .vpcompresswReg512].all packMeets = true := by decide

theorem witness_ExpandRegister : [Instr.vpexpandbReg128, .vpexpandbReg256, .vpexpandbReg512, .vpexpandwReg128,
    .vpexpandwReg256, .vpexpandwReg512].all packMeets = true := by decide

/-- The rows with a memory operand: no active element, and some; the bytes can be located. -/
def packMemMeets (a : Access) (c : Nat × Nat × (Evex → Mem → Instr)) : Bool :=
  [(packBase, ev 1 0 1 false false, true), (packBase.setOpmask 1#3 0#64, ev 1 0 1 false false, false),
    (packBase, ev 1 0 0 false false, true)].all fun x =>
      match (c.2.2 x.2.1 (.base 0#4 .none)).vecRow with
      | none => false
      | some r =>
        let n := ((List.range (c.2.1 / c.1)).filter (active x.1 x.2.1.aaa)).length * (c.1 / 8)
        isOk (vecReady x.1 r (evexLegal r x.2.1 true)) && decide (x.2.2 = true ↔ n ≠ 0) &&
          isOk (locate x.1 a (memSeg x.1 x.2.1.pfx (.base 0#4 .none)) (memOff x.1 x.2.1.pfx (c.1 / 8) (.base 0#4 .none)) n)

theorem witness_CompressMemory : [((8 : Nat), (128 : Nat), Instr.vpcompressbMem128), (8, 256, .vpcompressbMem256),
    (8, 512, .vpcompressbMem512), (16, 128, .vpcompresswMem128), (16, 256, .vpcompresswMem256),
    (16, 512, .vpcompresswMem512)].all (packMemMeets { Access.store with multiWrite := true }) = true := by decide

/-- The rows that expand from memory: no active element, and some; the elements can be read; and where only the first page
is there, the elements before one are read and that one faults. -/
def expandMeets (c : Nat × Nat × (Evex → Mem → Instr)) : Bool :=
  let m : Mem := .base 0#4 .none
  let half := { packBase.setGpr64 rax 0x1FFE#64 with paging := some [{
    page := 1, paBase := 0x1000, writable := true, user := true, executable := true, accessed := false, dirty := false }] }
  let e := ev 1 0 0 false false
  ([(packBase, ev 1 0 1 false false), (packBase.setOpmask 1#3 0#64, ev 1 0 1 false false), (packBase, e), (half, e)].all
    fun x =>
      match (c.2.2 x.2 m).vecRow with
      | none => false
      | some r => isOk (vecReady x.1 r (evexLegal r x.2 true)) && (x.1.paging.isSome ||
          isOk (readElems x.1 (memSeg x.1 x.2.pfx m) (memOff x.1 x.2.pfx (c.1 / 8) m) (c.1 / 8) (fun _ => true)
            ((List.range (c.2.1 / c.1)).filter (active x.1 x.2.aaa)).length 0))) &&
    match readElems half (memSeg half e.pfx m) (memOff half e.pfx (c.1 / 8) m) (c.1 / 8) (fun _ => true) (16 / c.1) 0 with
    | .error _ => false
    | .ok (_, u) => decide (16 / c.1 < c.2.1 / c.1) && !isOk (readMem u Access.load (memSeg half e.pfx m)
        (memOff half e.pfx (c.1 / 8) m + BitVec.ofNat 64 (16 / c.1 * (c.1 / 8))) (c.1 / 8))

/-- Both parts, the second at the last canonical bytes of the lower half. -/
theorem witness_ExpandMemory : [((8 : Nat), (128 : Nat), Instr.vpexpandbMem128), (8, 256, .vpexpandbMem256),
    (8, 512, .vpexpandbMem512), (16, 128, .vpexpandwMem128), (16, 256, .vpexpandwMem256),
    (16, 512, .vpexpandwMem512)].all expandMeets = true ∧
    base.Flat ∧ CanonicalRange base (linearAddress base .ds 0x7FFFFFFFFF80#64) (64 * 2) := by
  unfold State.Flat CanonicalRange; decide

theorem witness_ExpandUndoesCompress : (let r := packRow [.vbmi2] 512 16 .mergeZero
    0 < r.esz ∧ r.esz * r.kl = r.vl ∧ r.vl ≤ 512) := by decide

theorem witness_ConcatShiftFormulas : 0 < 1 ∧ 0 < 64 := by decide

/-- The row of VPOPCNTQ with 512 bits; that of an affine instruction; a legacy-SSE row. -/
def rowQ : VecRow := evexRow [.vpopcntdq] 512 64 8 true false .mergeZero
/-- A row without fault suppression. -/
def rowA : VecRow := evexRow [.avx512f, .gfni] 512 8 8 false true .mergeZero

/-- Both memory clauses, at the last canonical bytes of the lower half. -/
theorem witness_VectorSourceBytes : base.Flat ∧ (rowQ.vl = 512 ∧ rowQ.esz = 64) ∧ (rowA.vl = 512 ∧ rowA.esz = 8) ∧
    (let s := base.setGpr64 rax 0x7FFFFFFFFFC0#64
     CanonicalRange s (linearAddress s (memSeg s Pfx.none (.base 0#4 .none)) (memOff s Pfx.none 64 (.base 0#4 .none))) 64) ∧
    (let s := base.setGpr64 rax 0x7FFFFFFFFFF8#64
     CanonicalRange s (linearAddress s (memSeg s Pfx.none (.base 0#4 .none)) (memOff s Pfx.none 8 (.base 0#4 .none))) 8) ∧
    (rowQ.suppress = true ∧ 7 < rowQ.kl) ∧ rowA.suppress = false := by
  unfold State.Flat CanonicalRange; decide

/-- Both clauses; the second at the first non-canonical address. -/
theorem witness_FaultSuppression : base.Flat ∧ rowQ.form = .evex ∧ rowQ.suppress = true ∧ rowA.form = .evex ∧
    rowA.suppress = false ∧ 8 ≤ rowA.vl ∧
    (let s := base.setGpr64 rax 0x800000000000#64
     canonical s.cfg.linAddrBits (linearAddress s (memSeg s Pfx.none (.base 0#4 .none))
       (memOff s Pfx.none rowA.disp8 (.base 0#4 .none))) = false) := by
  unfold State.Flat; decide

/-- RAX one byte off, alignment checking on at CPL 3. -/
def crooked : State :=
  { user.setGpr64 rax 0x1001#64 with
    sys := { user.sys with cr0 := user.sys.cr0 ||| 0x40000#64 }, rflags := 0x40002#64 }

theorem witness_AlignmentFaults : crooked.mode = .long ∧ crooked.paging = none ∧ Pfx.none.forbidden = false ∧
    (sseRow [.gfni]).form = .sse ∧ (sseRow [.gfni]).suppress = false ∧ (sseRow [.gfni]).vl = 128 ∧
    (let la := linearAddress crooked (memSeg crooked Pfx.none (.base 0#4 .none)) (memOff crooked Pfx.none 1 (.base 0#4 .none))
     CanonicalRange crooked la 16 ∧ la.toNat % 16 ≠ 0 ∧ CanonicalRange crooked la 8 ∧ la.toNat % 8 ≠ 0 ∧
       CanonicalRange crooked la 4 ∧ la.toNat % 4 ≠ 0) ∧
    crooked.cfg.features.movdir64b = true ∧ crooked.cfg.features.movdiri = true ∧ crooked.alignCheck = true ∧
    isOk (readMem crooked Access.load (memSeg crooked Pfx.none (.base 0#4 .none))
      (memOff crooked Pfx.none 1 (.base 0#4 .none)) 64) = true ∧
    (let la := linearAddress crooked .es (crooked.gprAddr (crooked.addrSize Pfx.none) rax)
     CanonicalRange crooked la 64 ∧ la.toNat % 64 ≠ 0) := by
  unfold CanonicalRange; decide

/-- Each clause: no feature, no paging, pages. -/
theorem witness_CldemoteIsNop : Pfx.none.forbidden = false ∧ { Pfx.none with forbidden := true }.forbidden = true ∧
    { base.cfg.features with cldemote := false }.cldemote = false ∧ base.paging = none := by decide

/-- Each clause: a store; no feature; 66H, a register destination. -/
theorem witness_MovdiriStores : Pfx.none.forbidden = false ∧ base.cfg.features.movdiri = true ∧ ([4, 8].all fun n =>
    isOk (locate packBase (Access.direct n) (memSeg packBase Pfx.none (.base 0#4 .none))
      (memOff packBase Pfx.none 1 (.base 0#4 .none)) n)) = true ∧
    { base.cfg.features with movdiri := false }.movdiri = false ∧ { Prefixes.none with p66 := true }.p66 = true ∧
    (Prefixes.none.f2 = false ∧ Prefixes.none.f3 = false ∧ (Rm.reg 7#5).isMem = false) := by decide

/-- Each clause: a copy; no feature; a register source; F2H and F3H. -/
theorem witness_Movdir64bCopies : packBase.cfg.features.movdir64b = true ∧
    isOk (readMem packBase Access.load .ds (memOff packBase Pfx.none 1 (.base 6#4 .none)) 64) = true ∧
    isOk (locate packBase Access.direct64 .es (packBase.gprAddr (packBase.addrSize Pfx.none) rax) 64) = true ∧
    { base.cfg.features with movdir64b := false }.movdir64b = false ∧
    (let p := { Prefixes.none with p66 := true }
     p.p66 = true ∧ p.f2 = false ∧ p.f3 = false) ∧
    { Prefixes.none with f2 := true }.f2 = true ∧ { Prefixes.none with p66 := true, f3 := true }.f3 = true := by decide

/-- Virtual-8086 mode. -/
def inV86 : State := { base with sys := { base.sys with efer := 0#64 }, rflags := 0x20002#64 }

/-- Each clause. -/
theorem witness_WbnoinvdRules : base.cfg.features.wbnoinvd = true ∧ base.mode ≠ .v86 ∧ base.cpl = 0 ∧ inV86.mode = .v86 ∧
    user.cpl ≠ 0 ∧ { base.cfg.features with wbnoinvd := false }.wbnoinvd = false := by decide

theorem witness_CpuidResult : Pfx.none.forbidden = false := by decide

/-- Each clause: the first leaf above the highest, the last below the extended ones, the first above those. -/
theorem witness_CpuidLeaves : (maxBasic base).toNat < (0x1C#32).toNat ∧ (0x7FFFFFFF#32).toNat < 0x80000000 ∧
    base.cfg.cpuidMaxExt.toNat < (0x80000009#32).toNat ∧ (maxBasic base).toNat < (0x80000009#32).toNat ∧
    7 ≤ (maxBasic base).toNat ∧
    6 ≤ (maxBasic { base with cfg := { base.cfg with
      features := { noFeatures with hfi := true }, highestBasicLeaf := 0#32 } }).toNat ∧ 0x80000008 ≤ base.cfg.cpuidMaxExt.toNat := by decide

/-- PCONFIG runs in this state and reads its structure. -/
def pconfigRuns (s : State) : Bool :=
  pconfigLegal Pfx.none s && !pconfigExits s && pconfigReady s && decide ((pconfigBase s).toNat % 256 = 0) &&
    (match readMem s Access.load .ds (pconfigBase s) 192 with
     | .ok (bs, _) => structReservedClear bs
     | .error _ => false)

/-- Every test of the structure: command 4, KeyIDs 0, 15 and 16, algorithms none, two, another, a held lock, others. -/
theorem witness_PconfigReports : [keyed 1 4 1, keyed 0 0 1, keyed 15 0 1, keyed 16 0 1, keyed 1 0 0, keyed 1 0 3,
    keyed 1 0 2, { keyed 1 0 1 with keyTableLock := .exclusive, cfg := { base.cfg with logicalProcessors := 2 } },
    { keyed 1 1 1 with cfg := { base.cfg with logicalProcessors := 2 } }].all pconfigRuns = true := by decide

theorem witness_PconfigCommands : [0, 1, 2, 3].all (fun c => pconfigRuns (keyed 15 c 1) &&
    (match readMem (keyed 15 c 1) Access.load .ds (pconfigBase (keyed 15 c 1)) 192 with
     | .ok (bs, _) => decide (pconfigRefusal (keyed 15 c 1) bs = none) && decide (structCommand bs = c)
     | .error _ => false)) = true ∧ (keyed 15 0 1).keyTableLock = .unlocked ∧ (keyed 15 0 1).cfg.logicalProcessors ≤ 1 := by
  decide

/-- Each clause: no privilege; an exit; a leaf above 0; a reserved byte. -/
theorem witness_PconfigFaults : user.cpl ≠ 0 ∧
    (pconfigLegal Pfx.none exiting = true ∧ exiting.vmx.mode = .nonRoot ∧
      exiting.vmx.vmcs.pconfigExiting.getLsbD (min (exiting.gpr32 rax).toNat 63) = true) ∧
    (pconfigLegal Pfx.none (base.setGpr64 rax 1#64) = true ∧ pconfigExits (base.setGpr64 rax 1#64) = false ∧
      (base.setGpr64 rax 1#64).gpr32 rax ≠ 0#32) ∧
    (let s := bytesAt (keyed 1 0 1) 0x10005 [1#8]
     (pconfigLegal Pfx.none s && !pconfigExits s && pconfigReady s && decide ((pconfigBase s).toNat % 256 = 0) &&
       (match readMem s Access.load .ds (pconfigBase s) 192 with
        | .ok (bs, _) => !structReservedClear bs
        | .error _ => false)) = true) := by decide

/-- The largest legal source; no monitor armed. -/
theorem witness_WaitCompletes : base.cfg.features.waitpkg = true ∧ ((base.setGpr64 rcx 1#64).gpr32 rcx).toNat < 2 ∧
    base.monitor = none := by decide

/-- Each clause; the smallest illegal source; REX.R set; one mandatory prefix of the three. -/
theorem witness_WaitFaults : { base.cfg.features with waitpkg := false }.waitpkg = false ∧
    2 ≤ ((base.setGpr64 rcx 2#64).gpr32 rcx).toNat ∧
    (14#4 : GReg) &&& 7#4 = 6#4 ∧
    ([{ Prefixes.none with p66 := true }, { Prefixes.none with f2 := true }, { Prefixes.none with f3 := true }].all fun p =>
      [(true, false, false), (false, true, false), (false, false, true)].contains (p.p66, p.f2, p.f3)) = true := by decide

/-- Each clause: no feature; the longest memory operand; a byte to watch; through SS the first non-canonical address. -/
theorem witness_UmonitorArms : { base.cfg.features with waitpkg := false }.waitpkg = false ∧
    ((0xB4#8 : Byte).extractLsb' 6 2 ≠ 3#2 ∧ (0xB4#8 : Byte).extractLsb' 3 3 = 6#3 ∧
      5 ≤ [0#8, 0#8, 0#8, 0#8, 0#8].length) ∧ base.cfg.features.waitpkg = true ∧
    (match locate base Access.monitored (effSeg base Pfx.none .ds) (base.gprAddr (base.addrSize Pfx.none) rax) 1 with
     | .ok (_ :: _, _) => true
     | _ => false) = true ∧
    (let p := { Pfx.none with seg := some .ss }
     let s := base.setGpr64 rax 0x800000000000#64
     s.mode = .long ∧ effSeg s p .ds = .ss ∧
       canonical s.cfg.linAddrBits (linearAddress s (effSeg s p .ds) (s.gprAddr (s.addrSize p) rax)) = false) := by decide

/-- The last byte of the block. -/
theorem witness_AgentStoreTriggersMonitor : busy.monitor = some 0x40 ∧ 1 < [0#8, 0#8].length ∧ 0x40 ≤ 0x7E + 1 ∧
    0x7E + 1 < 0x40 + monitorSize busy.cfg ∧ 0x7E + 2 ≤ 2 ^ busy.cfg.maxPhyAddr := by decide

/-- The mapping of `sppBase`. -/
def sppPage : EptEntry :=
  { gpaBase := 0x1000, paBase := 0x1000, size := .k4, misconfigured := false, read := true, execute := true
    accW := false, spp := true }

/-- The common hypotheses at the last bytes of a region, and each clause: writable; no sub-page permissions; a region that
is writable, a miss, a misconfiguration. -/
theorem witness_SubPageDecision : sppBase.mode = .long ∧ 0x107C % 128 + 4 ≤ 128 ∧ eptFind sppBase 0x107C = some sppPage ∧
    sppPage.misconfigured = false ∧
    sppBase.onApicPage (sppBase.physical (sppPage.paBase + (0x107C - sppPage.gpaBase))) = false ∧
    sppBase.vmx.enclaveMode = false ∧ { sppPage with accW := true }.accW = true ∧ sppPage.accW = false ∧
    { sppPage with spp := false }.spp = false ∧ sppBase.sppOn = true ∧ sppPage.size = .k4 ∧ sppPage.spp = true ∧
    (sppLookup sppBase 0x107C).1 = .permissions 5#64 ∧
    (sppLookup (bytesAt sppBase 0x200000 [0#8]) 0x107C).1 = .miss ∧
    (sppLookup (bytesAt sppBase 0x400008 [7#8]) 0x107C).1 = .misconfiguration := by decide

theorem witness_SubPageWalk : sppBase.vmx.sppCache = [] := by decide

/-- Both conditional clauses hold of the exit. -/
theorem witness_VmExitSavesTraceControl : (let s : State := { sppBase with
      inputs := [.smmExit]
      vmx := { sppBase.vmx with vmcs := { sppBase.vmx.vmcs with exitCtl := 0x2000000#32 } } }
    s.vmx.handedOver = false ∧ gives (step s) (fun t => t.vmx.handedOver) = true ∧ (∀ len, s.inputs.head? ≠ some (.vmEntry len)) ∧
      (s.cfg.features.ptVmx && s.msr.vmxExitCtls.getLsbD 57 && s.msr.vmxTrueExitCtls.getLsbD 57) = true ∧
      s.vmx.vmcs.exitCtl.getLsbD 25 = true) := by
  refine ⟨?_, ?_, ?_, ?_, ?_⟩ <;> first | decide | simp

/-- Each clause: a bad SPPTP (its first bit beyond the width), an unsupported control, TraceEn on, neither. -/
theorem witness_VmEntryChecks : (let v := sppBase.vmx.vmcs
    let root := fun (v : Vmcs) => { sppBase with vmx := { sppBase.vmx with mode := .root, vmcs := v } }
    (root v).vmx.mode = .root ∧ entryControlsBad (root { v with spptp := 0x400000000000#64 }) = true ∧
      entryControlsBad { root v with msr := { base.msr with vmxProcbasedCtls2 := 0#64 } } = true ∧
      entryControlsBad (root { v with entryCtl := 0x40000#32 }) = false ∧
      entryGuestBad { root { v with entryCtl := 0x40000#32 } with msr := { base.msr with rtitCtl := 1#64 } } = true ∧
      entryControlsBad (root v) = false ∧ entryGuestBad (root v) = false) := by decide

theorem witness_FeedbackUpdate : gives (step { hfiBaseState with
    inputs := [.hfiUpdate 0 [{ row := 3, perf := some 1#8, energy := none }] 5#64 false false] })
    (fun t => decide (t.byte 0x12345028 ≠ hfiBaseState.byte 0x12345028)) = true := by decide

/-- Each clause: the last address that does not split, the first that does, the bit off; an access that passes the other
checks, one that does not. -/
theorem witness_SplitLockFaults : base.cfg.features.splitLock = true ∧ (0x20000000#32 : Word32).getLsbD 29 = true ∧
    (0x3D#64 : Word64).toNat / base.cfg.clflushLine ≠ ((0x3D#64 : Word64).toNat + 4 - 1) / base.cfg.clflushLine ∧
    ¬ ((0x3C#64 : Word64).toNat / base.cfg.clflushLine ≠ ((0x3C#64 : Word64).toNat + 4 - 1) / base.cfg.clflushLine) ∧
    base.msr.testCtl.getLsbD 29 = false ∧ isOk (locate base Access.store .ds 0x3D#64 4) = true ∧
    base.vmx.enclaveMode = false ∧
    (match locate base Access.store .ds 0x800000000000#64 4 with
     | .error (.fault _) => true
     | _ => false) = true := by decide

end Sys2Proof.Tests
end

section
/-! How an access can leave the guest: the state of a VM exit is the exit, `State.vmExit` or `State.vmExitAt`, of a state
that checking an access may reach (20_memory.md R104; 50_ept_sub_page_permissions.md R500, R504, R510). -/

namespace Sys2Proof.Machine

/-! ### Peeling a computation that does not complete -/

/-- A course that gives a next state: its first part leaves the guest, or completes and the rest gives that state. -/
theorem finish_bind_next {α : Type} {x : Except Stop α} {f : α → Except Stop State} {t : State}
    (h : finish (x >>= f) = .next t) : x = .error (.exit t) ∨ ∃ a, x = .ok a ∧ finish (f a) = .next t := by
  cases x with
  | ok a => exact .inr ⟨a, rfl, h⟩
  | error e =>
    refine .inl ?_
    rw [error_bind] at h
    rcases finish_next h with h | h <;> cases h
    rfl

/-! ### The state a VM exit leaves -/

/-- `t` is the state of a VM exit taken after checks from `s` on. -/
inductive ExitOf (s : State) : State → Prop
  | plain {u : State} (h : AfterChecks s u) (reason : ExitReason) (qual : Word64) : ExitOf s (u.vmExit reason qual)
  | located {u : State} (h : AfterChecks s u) (reason : ExitReason) (qual gla gpa : Word64) :
      ExitOf s (u.vmExitAt reason qual gla gpa)

theorem ExitOf.of_afterChecks {s u t : State} (h : AfterChecks s u) (k : ExitOf u t) : ExitOf s t := by
  cases k with
  | plain k r q => exact .plain (h.trans k) r q
  | located k r q gla gpa => exact .located (h.trans k) r q gla gpa

@[simp] theorem State.vmExit_cfg (s : State) (reason : ExitReason) (qual : Word64) :
    (s.vmExit reason qual).cfg = s.cfg := rfl
@[simp] theorem State.vmExitAt_cfg (s : State) (reason : ExitReason) (qual gla gpa : Word64) :
    (s.vmExitAt reason qual gla gpa).cfg = s.cfg := rfl

theorem ExitOf.cfg {s t : State} (h : ExitOf s t) : t.cfg = s.cfg := by
  cases h with
  | plain h => exact h.cfg
  | located h => exact h.cfg

/-! ### Computations that leave the guest only so -/

/-- A VM exit of the computation is one taken after checks from `s` on. -/
structure ExitsFrom {α : Type} (s : State) (x : Except Stop α) : Prop where
  exitOf : ∀ t, x = .error (.exit t) → ExitOf s t

section
variable {α β : Type} {s : State}

theorem ExitsFrom.ok (a : α) : ExitsFrom s (.ok a : Except Stop α) := ⟨fun _ h => by cases h⟩

theorem ExitsFrom.fault (f : Fault) : ExitsFrom s (.error (.fault f) : Except Stop α) := ⟨fun _ h => by cases h⟩

theorem ExitsFrom.refused (r : Refusal) : ExitsFrom s (.error (.refused r) : Except Stop α) := ⟨fun _ h => by cases h⟩

theorem ExitsFrom.exit {t : State} (h : ExitOf s t) : ExitsFrom s (.error (.exit t) : Except Stop α) :=
  ⟨fun _ e => by cases e; exact h⟩

theorem ExitsFrom.of_afterChecks {u : State} {x : Except Stop α} (h : AfterChecks s u) (k : ExitsFrom u x) :
    ExitsFrom s x := ⟨fun t e => .of_afterChecks h (k.exitOf t e)⟩

theorem ExitsFrom.bind {x : Except Stop α} {f : α → Except Stop β} (hx : ExitsFrom s x)
    (hf : ∀ a, x = .ok a → ExitsFrom s (f a)) : ExitsFrom s (x >>= f) := by
  cases x with
  | ok a => exact hf a rfl
  | error e => exact ⟨fun t h => by cases h; exact hx.exitOf t rfl⟩

theorem ExitsFrom.map {x : Except Stop α} (f : α → β) (hx : ExitsFrom s x) : ExitsFrom s (x.map f) := by
  cases x with
  | ok a => exact .ok _
  | error e => exact ⟨fun t h => by cases h; exact hx.exitOf t rfl⟩

theorem ExitsFrom.check (v : State) (c : Bool) (e : Exc) : ExitsFrom s (check v c e) := by
  cases c with
  | true => exact .ok _
  | false => exact .fault _

end

/-! ### Translation and second-level checks -/

theorem translate_exits (s : State) (k : AccessKind) (la : Word64) : ExitsFrom s (translate s k la) := by
  unfold translate
  split
  · exact .ok _
  · split
    · exact .fault _
    · split
      · exact .ok _
      · exact .fault _

theorem translateAll_exits (s : State) (k : AccessKind) (cs : List (Word64 × Nat)) :
    ExitsFrom s (translateAll s k cs) := by
  induction cs generalizing s with
  | nil => exact .ok _
  | cons c cs ih =>
    exact .bind (translate_exits s k c.1) fun a h =>
      .bind (.of_afterChecks (translate_spec h) (ih a.2)) fun _ _ => .ok _

theorem eptViolation_exits {α : Type} (s : State) (la : Word64) (gpa : Nat) :
    ExitsFrom s (.error (eptViolation s la gpa) : Except Stop α) := .exit (.located (AfterChecks.drawn s) _ _ _ _)

theorem apicExit_exits {α : Type} (s : State) (la : Word64) (gpa : Nat) :
    ExitsFrom s (.error (apicExit s la gpa) : Except Stop α) := .exit (.located (AfterChecks.drawn s) _ _ _ _)

theorem sppExit_exits {α : Type} (s : State) (isMiss crosses : Bool) (la : Word64) (gpa n : Nat) :
    ExitsFrom s (.error (sppExit s isMiss crosses la gpa n) : Except Stop α) :=
  .exit (.located (AfterChecks.drawn s) _ _ _ _)

theorem sppWrite_exits (s : State) (e : EptEntry) (spp crosses : Bool) (la : Word64) (gpa n : Nat) :
    ExitsFrom s (sppWrite s e spp crosses la gpa n) := by
  unfold sppWrite
  split
  · have w : AfterChecks s (sppLookup s gpa).2 := sppWalk_spec 3 s gpa s.vmx.vmcs.spptp
    split
    all_goals
      rename_i hs
      rw [hs] at w
      refine .of_afterChecks w ?_
    · split
      · exact .ok _
      · exact eptViolation_exits _ _ _
    · exact sppExit_exits _ _ _ _ _ _
    · exact sppExit_exits _ _ _ _ _ _
  · exact eptViolation_exits _ _ _

theorem enclaveCheck_exits (s u : State) (k : AccessKind) (la : Word64) (pa : Nat) :
    ExitsFrom s (enclaveCheck u k la pa) := by
  unfold enclaveCheck
  split
  · exact .fault _
  · exact .ok _

theorem eptChunk_exits (s : State) (k : AccessKind) (weak crosses : Bool) (la : Word64) (gpa n : Nat) :
    ExitsFrom s (eptChunk s k weak crosses la gpa n) := by
  have violation {α : Type} := eptViolation_exits (α := α) s la gpa
  have drawn := AfterChecks.drawn s
  unfold eptChunk
  split
  · exact violation
  · dsimp only
    split
    · exact .exit (.plain (AfterChecks.refl s) _ _)
    · split
      · exact violation
      · split
        · split
          · exact violation
          · exact .ok _
        · split
          · split
            · exact violation
            · exact apicExit_exits _ _ _
          · split
            · split
              · exact .map _ (.of_afterChecks drawn (sppWrite_exits ..))
              · exact .map _ (sppWrite_exits ..)
            · split
              · split
                · exact .of_afterChecks drawn (apicExit_exits _ _ _)
                · exact .ok _
              · exact .ok _

theorem secondLevel_exits (s : State) (k : AccessKind) (weak crosses : Bool) (la : Word64) (gpa n : Nat) :
    ExitsFrom s (secondLevel s k weak crosses la gpa n) := by
  unfold secondLevel
  split
  · exact .bind (eptChunk_exits ..) fun _ _ => .bind (enclaveCheck_exits ..) fun _ _ => .ok _
  · exact .ok _

/-- Two second-level checks one after the other. -/
theorem secondLevel_twice_exits {α : Type} {s u : State} (hu : AfterChecks s u) (k : AccessKind)
    (weak crosses weak' crosses' : Bool) (la la' : Word64) (gpa gpa' n n' : Nat) (f : Nat × State → Nat × State → α) :
    ExitsFrom s (do
      let a ← secondLevel u k weak crosses la gpa n
      let b ← secondLevel a.2 k weak' crosses' la' gpa' n'
      pure (f a b)) :=
  .of_afterChecks hu (.bind (secondLevel_exits ..) fun _ h =>
    .bind (.of_afterChecks (secondLevel_spec h) (secondLevel_exits ..)) fun _ _ => .ok _)

theorem eptAll_exits (s : State) (k : AccessKind) (weak : Bool) (ts : List (Word64 × Nat × Nat)) :
    ExitsFrom s (eptAll s k weak ts) := by
  match ts with
  | [] => exact .ok _
  | [c] => exact .bind (secondLevel_exits ..) fun _ _ => .ok _
  | c :: d :: _ =>
    simp only [eptAll]
    split
    · exact secondLevel_twice_exits (AfterChecks.drawn s) ..
    · refine secondLevel_twice_exits ?_ ..
      split
      · exact AfterChecks.drawn s
      · exact AfterChecks.refl s

/-! ### Accesses -/

theorem locate_exits (s : State) (a : Access) (seg : Seg) (off : Word64) (n : Nat) :
    ExitsFrom s (locate s a seg off n) := by
  unfold locate
  dsimp only
  split
  · exact .fault _
  · exact .bind (.check ..) fun _ _ => .bind (translateAll_exits ..) fun _ h => .bind (.check ..) fun _ _ =>
      .bind (.check ..) fun _ _ => .of_afterChecks (translateAll_spec h).1 (eptAll_exits ..)

theorem readMem_exits (s : State) (a : Access) (seg : Seg) (off : Word64) (n : Nat) :
    ExitsFrom s (readMem s a seg off n) := .bind (locate_exits ..) fun _ _ => .ok _

theorem writeMem_exits (s : State) (a : Access) (seg : Seg) (off : Word64) (bs : List Byte) :
    ExitsFrom s (writeMem s a seg off bs) := .bind (locate_exits ..) fun _ _ => .ok _

theorem readElems_exits (s : State) (seg : Seg) (off : Word64) (k : Nat) (act : Nat → Bool) (n j : Nat) :
    ExitsFrom s (readElems s seg off k act n j) := by
  induction n generalizing s j with
  | zero => exact .ok _
  | succ n ih =>
    simp only [readElems]
    split
    · exact .bind (readMem_exits ..) fun a h =>
        .bind (.of_afterChecks (readMem_spec h).1 (ih a.2 _)) fun _ _ => .ok _
    · exact .bind (.ok _) fun _ h => by cases h; exact .bind (ih s _) fun _ _ => .ok _

theorem memSrc_exits (s : State) (r : VecRow) (p : Pfx) (b : Bool) (act : Nat → Bool) (m : Mem) :
    ExitsFrom s (memSrc s r p b act m) := by
  unfold memSrc
  dsimp only
  split
  · split
    · exact .ok _
    · exact .bind (readMem_exits ..) fun _ _ => .ok _
  · split
    · exact .bind (readElems_exits ..) fun _ _ => .ok _
    · exact .bind (readMem_exits ..) fun _ _ => .ok _

theorem vecSrc_exits (s : State) (r : VecRow) (p : Pfx) (b : Bool) (act : Nat → Bool) (rm : Rm) :
    ExitsFrom s (vecSrc s r p b act rm) := by
  cases rm with
  | reg x => exact .ok _
  | mem m => exact memSrc_exits ..

/-! ### Fetching and decoding -/

theorem fetchByte_exits (s : State) (i : Nat) : ExitsFrom s (fetchByte s i) := by
  refine .bind (locate_exits ..) fun a _ => ?_
  dsimp only
  split
  · exact .fault _
  · exact .ok _

/-- What stops a fetch is what stopped the fetch of one byte. -/
theorem fetchFrom_stop {s : State} {e : Stop} (n i : Nat) (h : (fetchFrom s n i).2 = some e) :
    ∃ j, fetchByte s j = .error e := by
  induction n generalizing i with
  | zero => cases h
  | succ n ih =>
    simp only [fetchFrom] at h
    split at h
    · rename_i hb; cases h; exact ⟨i, hb⟩
    · exact ih _ h

theorem fetchDecode_exits (s : State) : ExitsFrom s (fetchDecode s) := by
  unfold fetchDecode
  dsimp only
  split
  · exact .ok _
  · exact .fault _
  · cases hf : (fetchBytes s).2 with
    | none => exact .fault _
    | some e =>
      obtain ⟨j, hj⟩ := fetchFrom_stop _ _ hf
      exact ⟨fun t ht => by cases ht; exact (fetchByte_exits s j).exitOf t hj⟩
  · exact .refused _

end Sys2Proof.Machine
end

section
/-! What one instruction can do: the shared course its meaning takes, and from that the next states it can give
(60_exceptions.md R610, R614, R616; the meanings of 41 to 49). -/

namespace Sys2Proof.Machine

/-! ### The course of an instruction -/

/-- The rows of VPSHUFBITQMB with these operands. -/
def shufBitRows (e : Evex) (rm : Rm) : List Instr :=
  [.vpshufbitqmb128 e rm, .vpshufbitqmb256 e rm, .vpshufbitqmb512 e rm]

/-- The rows of VPCOMPRESSB and VPCOMPRESSW to memory with these operands. -/
def compressMemRows (e : Evex) (m : Mem) : List Instr :=
  [.vpcompressbMem128 e m, .vpcompressbMem256 e m, .vpcompressbMem512 e m, .vpcompresswMem128 e m,
    .vpcompresswMem256 e m, .vpcompresswMem512 e m]

/-- The rows of MOVDIRI with these operands, each with its number of bytes. -/
def movdiriRows (p : Pfx) (r : GReg) (m : Mem) : List (Nat × Instr) := [(4, .movdiri32 p r m), (8, .movdiri64 p r m)]

/-- The meaning of an instruction is a shared course for its row of the table, or one of its own. -/
inductive Course (i : Instr) (s : State) : Host.Outcome State Fault Refusal → Prop
  | evex {r : VecRow} (op : Vec → Vec → Vec → Vec) {e : Evex} (rm : Rm) (hr : i.vecRow = some r) (hp : i.pfx = e.pfx) :
      Course i s (runEvex r op e rm s)
  | vex {r : VecRow} (op : Vec → Vec → Vec) {v : Vex} (rm : Rm) (hr : i.vecRow = some r) (hp : i.pfx = v.pfx) :
      Course i s (runVex r op v rm s)
  | sse {r : VecRow} (op : Vec → Vec → Vec) {p : Pfx} (x : GReg) (rm : Rm) (hr : i.vecRow = some r) (hp : i.pfx = p) :
      Course i s (runSse r op p x rm s)
  | shufBit {r : VecRow} {e : Evex} {rm : Rm} (hr : i.vecRow = some r) (hp : i.pfx = e.pfx) (hi : i ∈ shufBitRows e rm) :
      Course i s (runShufBit r e rm s)
  | compressReg {r : VecRow} {e : Evex} (dst : VReg) (hr : i.vecRow = some r) (hp : i.pfx = e.pfx) :
      Course i s (runCompressReg r e dst s)
  | compressMem {r : VecRow} {e : Evex} {m : Mem} (hr : i.vecRow = some r) (hp : i.pfx = e.pfx)
      (hi : i ∈ compressMemRows e m) : Course i s (runCompressMem r e m s)
  | expandReg {r : VecRow} {e : Evex} (src : VReg) (hr : i.vecRow = some r) (hp : i.pfx = e.pfx) :
      Course i s (runExpandReg r e src s)
  | expandMem {r : VecRow} {e : Evex} (m : Mem) (hr : i.vecRow = some r) (hp : i.pfx = e.pfx) :
      Course i s (runExpandMem r e m s)
  | movdiri {n : Nat} {p : Pfx} {r : GReg} {m : Mem} (hi : (n, i) ∈ movdiriRows p r m) : Course i s (movdiri n p r m s)
  | movdir64b {p : Pfx} {r : GReg} {m : Mem} (hi : i = .movdir64b p r m) : Course i s (execMovdir64b p r m s)
  | cpuid {p : Pfx} (hi : i = .cpuid p) : Course i s (execCpuid p s)
  | cldemote {p : Pfx} {m : Mem} (hi : i = .cldemote p m) : Course i s (execCldemote p m s)
  | wbnoinvd {p : Pfx} (hi : i = .wbnoinvd p) : Course i s (execWbnoinvd p s)
  | pconfig {p : Pfx} (hi : i = .pconfig p) : Course i s (execPconfig p s)
  | tpause {p : Pfx} {r : GReg} (hi : i = .tpause p r) : Course i s (execTpause p r s)
  | umwait {p : Pfx} {r : GReg} (hi : i = .umwait p r) : Course i s (execUmwait p r s)
  | umonitor {p : Pfx} {r : GReg} (hi : i = .umonitor p r) : Course i s (execUmonitor p r s)

/-- Every instruction takes a course, by its row of the table. -/
theorem exec_course (i : Instr) (s : State) : Course i s (exec i s) := by
  unfold exec
  cases i with
  | cpuid => exact .cpuid rfl
  | cldemote => exact .cldemote rfl
  | movdiri32 => exact .movdiri (.head _)
  | movdiri64 => exact .movdiri (.tail _ (.head _))
  | movdir64b => exact .movdir64b rfl
  | wbnoinvd => exact .wbnoinvd rfl
  | pconfig => exact .pconfig rfl
  | tpause => exact .tpause rfl
  | umonitor => exact .umonitor rfl
  | umwait => exact .umwait rfl
  | gf2p8affineqb | gf2p8affineinvqb | gf2p8mulb =>
    exact .sse _ _ _ rfl rfl
  | vgf2p8affineqbVex128 | vgf2p8affineqbVex256 | vgf2p8affineinvqbVex128 | vgf2p8affineinvqbVex256 | vgf2p8mulbVex128
    | vgf2p8mulbVex256 | vaesdecVex256 | vaesdeclastVex256 | vaesencVex256 | vaesenclastVex256 | vpclmulqdqVex256 =>
    exact .vex _ _ rfl rfl
  | vgf2p8affineqb128 | vgf2p8affineqb256 | vgf2p8affineqb512 | vgf2p8affineinvqb128 | vgf2p8affineinvqb256 |
    vgf2p8affineinvqb512 | vgf2p8mulb128 | vgf2p8mulb256 | vgf2p8mulb512 | vaesdec128 | vaesdec256 | vaesdec512 |
    vaesdeclast128 | vaesdeclast256 | vaesdeclast512 | vaesenc128 | vaesenc256 | vaesenc512 | vaesenclast128 |
    vaesenclast256 | vaesenclast512 | vpclmulqdq128 | vpclmulqdq256 | vpclmulqdq512 | vpshldw128 | vpshldw256 |
    vpshldw512 | vpshldd128 | vpshldd256 | vpshldd512 | vpshldq128 | vpshldq256 | vpshldq512 | vpshldvw128 |
    vpshldvw256 | vpshldvw512 | vpshldvd128 | vpshldvd256 | vpshldvd512 | vpshldvq128 | vpshldvq256 | vpshldvq512 |
    vpshrdw128 | vpshrdw256 | vpshrdw512 | vpshrdd128 | vpshrdd256 | vpshrdd512 | vpshrdq128 | vpshrdq256 | vpshrdq512
    | vpshrdvw128 | vpshrdvw256 | vpshrdvw512 | vpshrdvd128 | vpshrdvd256 | vpshrdvd512 | vpshrdvq128 | vpshrdvq256 |
    vpshrdvq512 | vpdpbusd128 | vpdpbusd256 | vpdpbusd512 | vpdpbusds128 | vpdpbusds256 | vpdpbusds512 | vpdpwssd128 |
    vpdpwssd256 | vpdpwssd512 | vpdpwssds128 | vpdpwssds256 | vpdpwssds512 | vpopcntb128 | vpopcntb256 | vpopcntb512 |
    vpopcntw128 | vpopcntw256 | vpopcntw512 | vpopcntd128 | vpopcntd256 | vpopcntd512 | vpopcntq128 | vpopcntq256 |
    vpopcntq512 =>
    exact .evex _ _ rfl rfl
  | vpcompressbMem128 | vpcompressbMem256 | vpcompressbMem512 | vpcompresswMem128 | vpcompresswMem256 |
    vpcompresswMem512 =>
    exact .compressMem rfl rfl (by simp [compressMemRows])
  | vpcompressbReg128 | vpcompressbReg256 | vpcompressbReg512 | vpcompresswReg128 | vpcompresswReg256 |
    vpcompresswReg512 =>
    exact .compressReg _ rfl rfl
  | vpexpandbMem128 | vpexpandbMem256 | vpexpandbMem512 | vpexpandwMem128 | vpexpandwMem256 | vpexpandwMem512 =>
    exact .expandMem _ rfl rfl
  | vpexpandbReg128 | vpexpandbReg256 | vpexpandbReg512 | vpexpandwReg128 | vpexpandwReg256 | vpexpandwReg512 =>
    exact .expandReg _ rfl rfl
  | vpshufbitqmb128 | vpshufbitqmb256 | vpshufbitqmb512 =>
    exact .shufBit rfl rfl (by simp [shufBitRows])

/-! ### What an instruction leaves -/

/-- The instructions that store to memory: MOVDIRI, MOVDIR64B and the compress forms with a memory destination. -/
def StoresToMemory (i : Instr) : Prop :=
  (∃ n p r m, (n, i) ∈ movdiriRows p r m) ∨ (∃ p r m, i = .movdir64b p r m) ∨ ∃ e m, i ∈ compressMemRows e m

/-- The next states an instruction can give: a VM exit, or what it writes, after checks that change no more than
`AfterChecks` says. -/
inductive Effect (i : Instr) (s : State) : State → Prop
  | exit {t : State} (h : ExitOf s t) : Effect i s t
  | none {u : State} (h : AfterChecks s u) : Effect i s u.complete
  | vec {u : State} (h : AfterChecks s u) (d : VReg) (v : Vec) : Effect i s (u.setVec d v).complete
  | mask {e : Evex} {rm : Rm} (hi : i ∈ shufBitRows e rm) {u : State} (h : AfterChecks s u) (d : KReg) (v : Word64) :
      Effect i s (u.setOpmask d v).complete
  | store (hi : StoresToMemory i) {u : State} (h : AfterChecks s u) {pas : List Nat} (bs : List Byte)
      (hp : ∀ a ∈ pas, a < 2 ^ s.cfg.maxPhyAddr) : Effect i s (u.storeOwn (pas.zip bs)).complete
  | cpuid {p : Pfx} (hi : i = .cpuid p) (o : CpuidOut) : Effect i s (s.loadBiosSign.setCpuid o).serialize.complete
  | wbnoinvd {p : Pfx} (hi : i = .wbnoinvd p) : Effect i s s.serialize.complete
  | pconfig {p : Pfx} (hi : i = .pconfig p) {u : State} (h : AfterChecks s u) (bs : List Byte) :
      Effect i s (pconfigKeyProgram u bs)
  | tpause {p : Pfx} {r : GReg} (hi : i = .tpause p r) :
      Effect i s (s.wait.setRflags (waitFlags s.rflags (waitCarry s s.wait))).complete
  | umwait {p : Pfx} {r : GReg} (hi : i = .umwait p r) :
      Effect i s (s.waitArmed.afterWait.setRflags (waitFlags s.rflags (waitCarry s s.waitArmed))).complete
  | umonitor {p : Pfx} {r : GReg} (hi : i = .umonitor p r) {u : State} (h : AfterChecks s u) (pa : Nat) :
      Effect i s (u.arm pa).complete

section
variable {i : Instr} {s t : State}

/-- After a part that checks and reads, the rest decides the effect. -/
theorem Effect.of_bind {α : Type} {x : Except Stop α} {f : α → Except Stop State} (hx : ExitsFrom s x)
    (h : finish (x >>= f) = .next t) (hf : ∀ a, x = .ok a → finish (f a) = .next t → Effect i s t) : Effect i s t := by
  rcases finish_bind_next h with h | ⟨a, ha, h⟩
  · exact .exit (hx.exitOf t h)
  · exact hf a ha h

theorem runEvex_effect {r : VecRow} {op : Vec → Vec → Vec → Vec} {e : Evex} {rm : Rm}
    (h : runEvex r op e rm s = .next t) : Effect i s t := by
  obtain ⟨-, h⟩ := finish_vecReady_next h
  refine .of_bind (vecSrc_exits ..) h fun a hs h => ?_
  cases h
  exact .vec (vecSrc_spec hs) _ _

theorem runVex_effect {r : VecRow} {op : Vec → Vec → Vec} {v : Vex} {rm : Rm}
    (h : runVex r op v rm s = .next t) : Effect i s t := by
  obtain ⟨-, h⟩ := finish_vecReady_next h
  refine .of_bind (vecSrc_exits ..) h fun a hs h => ?_
  cases h
  exact .vec (vecSrc_spec hs) _ _

theorem runSse_effect {r : VecRow} {op : Vec → Vec → Vec} {p : Pfx} {x : GReg} {rm : Rm}
    (h : runSse r op p x rm s = .next t) : Effect i s t := by
  obtain ⟨-, h⟩ := finish_vecReady_next h
  refine .of_bind (vecSrc_exits ..) h fun a hs h => ?_
  cases h
  exact .vec (vecSrc_spec hs) _ _

theorem runShufBit_effect {r : VecRow} {e : Evex} {rm : Rm} (hi : i ∈ shufBitRows e rm)
    (h : runShufBit r e rm s = .next t) : Effect i s t := by
  obtain ⟨-, h⟩ := finish_vecReady_next h
  refine .of_bind (vecSrc_exits ..) h fun a hs h => ?_
  cases h
  exact .mask hi (vecSrc_spec hs) _ _

theorem runCompressReg_effect {r : VecRow} {e : Evex} {dst : VReg} (h : runCompressReg r e dst s = .next t) :
    Effect i s t := by
  obtain ⟨-, h⟩ := finish_vecReady_next h
  cases h
  exact .vec (AfterChecks.refl s) _ _

/-- A write that completes the instruction. -/
theorem Effect.of_writeMem {u v : State} {a : Access} {seg : Seg} {off : Word64} {bs : List Byte} (hi : StoresToMemory i)
    (hu : AfterChecks s u) (h : writeMem u a seg off bs = .ok v) : Effect i s v.complete := by
  obtain ⟨pas, w, -, hw, -, hp, rfl⟩ := writeMem_spec h
  exact .store hi (hu.trans hw) bs (hu.cfg ▸ hp)

theorem runCompressMem_effect {r : VecRow} {e : Evex} {m : Mem} (hi : i ∈ compressMemRows e m)
    (h : runCompressMem r e m s = .next t) : Effect i s t := by
  obtain ⟨-, h⟩ := finish_vecReady_next h
  dsimp only at h
  split at h
  · cases h
    exact .none (AfterChecks.refl s)
  · refine .of_bind (writeMem_exits ..) h fun u hu h => ?_
    cases h
    exact .of_writeMem (.inr (.inr ⟨e, m, hi⟩)) (AfterChecks.refl s) hu

theorem runExpandReg_effect {r : VecRow} {e : Evex} {src : VReg} (h : runExpandReg r e src s = .next t) :
    Effect i s t := by
  obtain ⟨-, h⟩ := finish_vecReady_next h
  cases h
  exact .vec (AfterChecks.refl s) _ _

theorem runExpandMem_effect {r : VecRow} {e : Evex} {m : Mem} (h : runExpandMem r e m s = .next t) :
    Effect i s t := by
  obtain ⟨-, h⟩ := finish_vecReady_next h
  refine .of_bind (readElems_exits ..) h fun a hs h => ?_
  cases h
  exact .vec (readElems_spec _ hs).1 _ _

theorem movdiri_effect {n : Nat} {p : Pfx} {r : GReg} {m : Mem} (hi : (n, i) ∈ movdiriRows p r m)
    (h : movdiri n p r m s = .next t) : Effect i s t := by
  obtain ⟨-, h⟩ := finish_check_next h
  refine .of_bind (writeMem_exits ..) h fun u hu h => ?_
  cases h
  exact .of_writeMem (.inl ⟨n, p, r, m, hi⟩) (AfterChecks.refl s) hu

theorem execMovdir64b_effect {p : Pfx} {r : GReg} {m : Mem} (hi : i = .movdir64b p r m)
    (h : execMovdir64b p r m s = .next t) : Effect i s t := by
  obtain ⟨-, h⟩ := finish_check_next h
  refine .of_bind (readMem_exits ..) h fun a ha h => ?_
  have read : AfterChecks s a.2 := (readMem_spec ha).1
  refine .of_bind (.of_afterChecks read (writeMem_exits ..)) h fun u hu h => ?_
  cases h
  exact .of_writeMem (.inr (.inl ⟨p, r, m, hi⟩)) read hu

theorem execCpuid_effect {p : Pfx} (hi : i = .cpuid p) (h : execCpuid p s = .next t) : Effect i s t := by
  obtain ⟨-, h⟩ := finish_check_next h
  cases h
  exact .cpuid hi _

theorem State.mayTouch_spec (s : State) (la : Word64) : AfterChecks s (s.mayTouch la) := by
  unfold State.mayTouch
  split
  · exact AfterChecks.refl s
  · rfl

theorem execCldemote_effect {p : Pfx} {m : Mem} (h : execCldemote p m s = .next t) : Effect i s t := by
  obtain ⟨-, h⟩ := finish_check_next h
  cases h
  split
  · exact .none (s.mayTouch_spec _)
  · exact .none (AfterChecks.refl s)

theorem execWbnoinvd_effect {p : Pfx} (hi : i = .wbnoinvd p) (h : execWbnoinvd p s = .next t) : Effect i s t := by
  obtain ⟨-, h⟩ := finish_check_next h
  split at h
  · cases h
  · obtain ⟨-, h⟩ := finish_check_next h
    obtain ⟨-, h⟩ := finish_check_next h
    cases h
    exact .wbnoinvd hi

theorem execPconfig_effect {p : Pfx} (hi : i = .pconfig p) (h : execPconfig p s = .next t) : Effect i s t := by
  obtain ⟨-, h⟩ := finish_check_next h
  split at h
  · cases h
    exact .exit (.plain (AfterChecks.refl s) _ _)
  · obtain ⟨-, h⟩ := finish_check_next h
    obtain ⟨-, h⟩ := finish_check_next h
    refine .of_bind (readMem_exits ..) h fun a ha h => ?_
    obtain ⟨-, h⟩ := finish_check_next h
    cases h
    exact .pconfig hi (readMem_spec ha).1 _

theorem execTpause_effect {p : Pfx} {r : GReg} (hi : i = .tpause p r) (h : execTpause p r s = .next t) :
    Effect i s t := by
  obtain ⟨-, h⟩ := finish_check_next h
  obtain ⟨-, h⟩ := finish_check_next h
  cases h
  exact .tpause hi

theorem execUmwait_effect {p : Pfx} {r : GReg} (hi : i = .umwait p r) (h : execUmwait p r s = .next t) :
    Effect i s t := by
  obtain ⟨-, h⟩ := finish_check_next h
  obtain ⟨-, h⟩ := finish_check_next h
  cases h
  exact .umwait hi

theorem execUmonitor_effect {p : Pfx} {r : GReg} (hi : i = .umonitor p r) (h : execUmonitor p r s = .next t) :
    Effect i s t := by
  obtain ⟨-, h⟩ := finish_check_next h
  refine .of_bind (locate_exits ..) h fun a ha h => ?_
  cases h
  exact .umonitor hi (locate_spec ha).1 _

theorem Course.effect {o : Host.Outcome State Fault Refusal} (c : Course i s o) (h : o = .next t) : Effect i s t := by
  cases c with
  | evex => exact runEvex_effect h
  | vex => exact runVex_effect h
  | sse => exact runSse_effect h
  | shufBit _ _ hi => exact runShufBit_effect hi h
  | compressReg => exact runCompressReg_effect h
  | compressMem _ _ hi => exact runCompressMem_effect hi h
  | expandReg => exact runExpandReg_effect h
  | expandMem => exact runExpandMem_effect h
  | movdiri hi => exact movdiri_effect hi h
  | movdir64b hi => exact execMovdir64b_effect hi h
  | cpuid hi => exact execCpuid_effect hi h
  | cldemote => exact execCldemote_effect h
  | wbnoinvd hi => exact execWbnoinvd_effect hi h
  | pconfig hi => exact execPconfig_effect hi h
  | tpause hi => exact execTpause_effect hi h
  | umwait hi => exact execUmwait_effect hi h
  | umonitor hi => exact execUmonitor_effect hi h

/-- What an instruction that gives a next state has done. -/
theorem exec_effect (h : exec i s = .next t) : Effect i s t := (exec_course i s).effect h

end

end Sys2Proof.Machine
end

section
/-! What one step can do: it runs an instruction, alone or while another agent's store lands, or takes an input. From
that, 00_scope.md R7: no step changes the configuration. -/

namespace Sys2Proof.Machine

/-! ### The cases of a step -/

theorem touchCode_spec (s : State) (len : Nat) : AfterChecks s (touchCode s len) := by
  unfold touchCode
  split
  · rename_i h; exact (locate_spec h).1
  · exact AfterChecks.refl s

theorem State.fetched_spec (s : State) : AfterChecks s s.fetched := by
  unfold State.fetched
  split
  · exact AfterChecks.refl s
  · rfl

@[simp] theorem State.begin_cfg (s : State) (len : Nat) : (s.begin len).cfg = s.cfg :=
  (s.fetched_spec.trans (touchCode_spec s.fetched len)).cfg

@[simp] theorem State.tick_cfg (s : State) : s.tick.cfg = s.cfg := by simp [State.tick]

/-- One instruction with a next state: fetching it leaves the guest, or it is decoded and executed. -/
theorem runInstruction_next {s t : State} (h : runInstruction s = .next t) : s.vmx.handedOver = false ∧
    (ExitOf s.tick t ∨ ∃ i len, fetchDecode s.tick = .ok (i, len) ∧ exec i (s.tick.begin len) = .next t) := by
  unfold runInstruction at h
  split at h
  · cases h
  · rename_i hh
    refine ⟨by simpa using hh, ?_⟩
    split at h
    · rename_i i len hf; exact .inr ⟨i, len, hf, h⟩
    · rename_i e hf
      rcases finish_next h with he | he
      · cases he
      · cases he
        exact .inl ((fetchDecode_exits s.tick).exitOf t hf)

/-- The ways a step gives a next state. -/
inductive StepCase (s : State) : State → Prop
  | instruction {rest : List Input} {t : State} (hi : s.inputs = [] ∧ rest = [] ∨ s.inputs = .instruction :: rest)
      (h : runInstruction { s with inputs := rest } = .next t) : StepCase s t
  | storeMeanwhile {pa : Nat} {bytes : List Byte} {rest : List Input} {u : State}
      (hi : s.inputs = .storeMeanwhile pa bytes :: rest)
      (h : runInstruction ({ s with inputs := rest }.storeEarly pa bytes) = .next u) :
      StepCase s (u.storeByAgent (landing s false pa bytes))
  | input {i : Input} {rest : List Input} {t : State} (hi : s.inputs = i :: rest) (hn : i ≠ .instruction)
      (hm : ∀ pa bytes, i ≠ .storeMeanwhile pa bytes) (h : applyInput i { s.tick with inputs := rest } = .next t) :
      StepCase s t

theorem step_next {s t : State} (h : step s = .next t) : StepCase s t := by
  unfold step at h
  split at h
  · rename_i hi
    exact .instruction (.inl ⟨hi, rfl⟩) (by rwa [← hi])
  · rename_i hi; exact .instruction (.inr hi) h
  · rename_i hi
    obtain ⟨u, hu, rfl⟩ := landAfter_next h
    exact .storeMeanwhile hi hu
  · rename_i hn hm hi
    exact .input hi hn hm h

/-! ### Instructions keep the configuration -/

@[simp] theorem pconfigEnd_cfg (s : State) (st : PconfigStatus) : (pconfigEnd s st).cfg = s.cfg := by
  unfold pconfigEnd
  dsimp only
  split <;> simp

theorem acquireKeyTable_spec (s : State) : AfterChecks s (acquireKeyTable s).2 := by
  unfold acquireKeyTable
  split
  · exact AfterChecks.refl s
  · split
    · exact AfterChecks.refl s
    · exact AfterChecks.drawn s

@[simp] theorem pconfigProgram_cfg (s : State) (bs : List Byte) : (pconfigProgram s bs).cfg = s.cfg := by
  unfold pconfigProgram
  dsimp only
  split
  · simp
  · split
    · simp
    · split <;> simp
  · simp
  · simp

@[simp] theorem pconfigKeyProgram_cfg (s : State) (bs : List Byte) : (pconfigKeyProgram s bs).cfg = s.cfg := by
  have lock := (acquireKeyTable_spec s).cfg
  unfold pconfigKeyProgram
  split
  · simp
  · split
    all_goals
      rename_i ha
      rw [ha] at lock
      simpa using lock

theorem Effect.cfg {i : Instr} {s t : State} (h : Effect i s t) : t.cfg = s.cfg := by
  cases h with
  | exit h => exact h.cfg
  | none h => simp [h.cfg]
  | vec h => simp [h.cfg]
  | mask _ h => simp [h.cfg]
  | store _ h => simp [h.cfg]
  | cpuid => simp
  | wbnoinvd => simp
  | pconfig _ h => simp [h.cfg]
  | tpause => simp
  | umwait => simp
  | umonitor _ h => simp [h.cfg]

theorem runInstruction_cfg {s t : State} (h : runInstruction s = .next t) : t.cfg = s.cfg := by
  obtain ⟨-, hexit | ⟨i, len, -, hexec⟩⟩ := runInstruction_next h
  · simp [hexit.cfg]
  · simp [(exec_effect hexec).cfg]

/-! ### Inputs keep the configuration: memory, feedback agent, registers -/

section
variable (s : State)

@[simp] theorem hfiUpdate_cfg (target : Nat) (rows : List HfiRow) (ts : Word64) (cp ce : Bool) :
    (hfiUpdate s target rows ts cp ce).cfg = s.cfg := by
  unfold hfiUpdate
  split
  · rfl
  · dsimp only
    split
    · simp
    · rfl

@[simp] theorem hfiAcknowledge_cfg : (hfiAcknowledge s).cfg = s.cfg := by
  unfold hfiAcknowledge
  split <;> rfl

@[simp] theorem senter_cfg : (senter s).cfg = s.cfg := by simp [senter]

@[simp] theorem setMsr_cfg (m : MsrName) (v : Word64) : (setMsr s m v).cfg = s.cfg := by
  cases m with
  | hwFeedbackPtr => simp [setMsr]
  | hwFeedbackConfig => simp [setMsr]
  | _ => rfl

@[simp] theorem setTme_cfg (lock enable : Bool) (keyidBits : Nat) (algs : BitVec 16) (maxKeys : Nat) :
    (setTme s lock enable keyidBits algs maxKeys).cfg = s.cfg := by
  unfold setTme
  dsimp only
  split <;> rfl

@[simp] theorem keyProgramByOther_cfg (id : Nat) (k : KeySlot) : (keyProgramByOther s id k).cfg = s.cfg := by
  obtain ⟨t, h, -⟩ := keyProgramByOther_spec s id k
  rw [h]

@[simp] theorem resetEvent_cfg : (resetEvent s).cfg = s.cfg := rfl
@[simp] theorem initEvent_cfg : (initEvent s).cfg = s.cfg := rfl

/-! ### VM transitions -/

@[simp] theorem setVmx_cfg (mode : VmxMode) (vmcs : Vmcs) (ept : List EptEntry) (apic : Option Nat) :
    (setVmx s mode vmcs ept apic).cfg = s.cfg := rfl
@[simp] theorem setEnclaveMode_cfg (on : Bool) : (setEnclaveMode s on).cfg = s.cfg := rfl

@[simp] theorem vmEntry_cfg (len : Nat) : (vmEntry s len).cfg = s.cfg := by
  unfold vmEntry
  split
  · rfl
  · split
    · simp [entryFailGuest]
    · simp [entrySucceed]

@[simp] theorem vmfunc0_cfg (len : Nat) (ept : List EptEntry) : (vmfunc0 s len ept).cfg = s.cfg := by
  unfold vmfunc0
  split <;> rfl

@[simp] theorem smmExit_cfg : (smmExit s).cfg = s.cfg := by
  unfold smmExit
  dsimp only
  split <;> rfl

/-! ### Intel PT output -/

@[simp] theorem ptExit_cfg (reason : ExitReason) (gpa : Nat) : (ptExit s reason gpa).cfg = s.cfg := by simp [ptExit]
@[simp] theorem ptMisconfigured_cfg : (ptMisconfigured s).cfg = s.cfg := by simp [ptMisconfigured]

variable {s}

/-- Where a PT output address has no translation, the state is that of a VM exit (51 R545, R548). -/
theorem ptTranslate_error {k : AccessKind} {addr : Nat} {t : State} (h : ptTranslate s k addr = .error t) :
    (∃ reason, t = ptExit s reason addr) ∨ t = ptMisconfigured s := by
  unfold ptTranslate at h
  split at h
  · split at h
    · cases h; exact .inl ⟨_, rfl⟩
    · dsimp only at h
      split at h
      · cases h; exact .inr rfl
      · split at h
        · cases h; exact .inl ⟨_, rfl⟩
        · split at h
          · cases h; exact .inl ⟨_, rfl⟩
          · cases h
  · cases h

/-- A computation over a list that stops has stopped at one of its elements. -/
theorem mapM_error {ε α β : Type} {f : α → Except ε β} {l : List α} {e : ε} (h : l.mapM f = .error e) :
    ∃ a ∈ l, f a = .error e := by
  induction l with
  | nil => cases h
  | cons a l ih =>
    rw [List.mapM_cons] at h
    cases ha : f a with
    | error e' =>
      rw [ha, error_bind] at h
      cases h
      exact ⟨a, .head _, ha⟩
    | ok b =>
      rw [ha, ok_bind] at h
      cases hl : l.mapM f with
      | error e' =>
        rw [hl, error_bind] at h
        cases h
        obtain ⟨c, hc, h⟩ := ih hl
        exact ⟨c, .tail _ hc, h⟩
      | ok bs => rw [hl] at h; cases h

theorem ptTranslate_error_cfg {k : AccessKind} {addr : Nat} {t : State} (h : ptTranslate s k addr = .error t) :
    t.cfg = s.cfg := by
  rcases ptTranslate_error h with ⟨reason, rfl⟩ | rfl
  · exact ptExit_cfg ..
  · exact ptMisconfigured_cfg s

theorem mapM_ptTranslate_error_cfg {k : AccessKind} {addrs : List Nat} {t : State}
    (h : addrs.mapM (ptTranslate s k) = .error t) : t.cfg = s.cfg := by
  obtain ⟨a, -, h⟩ := mapM_error h
  exact ptTranslate_error_cfg h

variable (s)

@[simp] theorem ptOutput_cfg (addr : Nat) (bytes : List Byte) : (ptOutput s addr bytes).cfg = s.cfg := by
  unfold ptOutput
  split
  · split
    · split
      · rename_i h; exact mapM_ptTranslate_error_cfg h
      · simp
    · rfl
  · rfl

@[simp] theorem ptRead_cfg (addr len : Nat) : (ptRead s addr len).cfg = s.cfg := by
  unfold ptRead
  split
  · split
    · rename_i h; exact mapM_ptTranslate_error_cfg h
    · rfl
  · rfl

@[simp] theorem ptLookup_cfg (addr len : Nat) (stop : Bool) : (ptLookup s addr len stop).cfg = s.cfg := by
  unfold ptLookup
  split
  · dsimp only
    split
    · rename_i h; exact ptTranslate_error_cfg h
    · rfl
  · rfl

@[simp] theorem ptAdvance_cfg : (ptAdvance s).cfg = s.cfg := by
  unfold ptAdvance
  split <;> rfl

@[simp] theorem ptPmlFull_cfg : (ptPmlFull s).cfg = s.cfg := by
  unfold ptPmlFull
  split
  · simp
  · rfl

variable {s} {t : State}

theorem loadRtit_cfg {via : RtitLoad} {v : Word64} (h : loadRtit s via v = .next t) : t.cfg = s.cfg := by
  have loaded : (if msrLegal s .rtitCtl v then s.setRtit v else s).cfg = s.cfg := by split <;> simp
  cases via with
  | msrLoadArea => cases h; exact loaded
  | rsm => cases h; exact loaded
  | xrstors =>
    simp only [loadRtit] at h
    split at h
    · cases h; simp
    · split at h
      · cases h; simp
      · cases h

/-! ### Locked accesses -/

theorem writeMem_cfg {a : Access} {seg : Seg} {off : Word64} {bs : List Byte} (h : writeMem s a seg off bs = .ok t) :
    t.cfg = s.cfg := by
  obtain ⟨pas, u, -, hu, -, -, rfl⟩ := writeMem_spec h
  simp [hu.cfg]

theorem lockedAccess_cfg {seg : Seg} {off : Word64} {bytes : List Byte} (h : lockedAccess s seg off bytes = .next t) :
    t.cfg = s.cfg := by
  unfold lockedAccess at h
  rcases finish_next h with h | h
  · cases hw : writeMem s Access.lockedWrite seg off bytes with
    | ok u => rw [hw] at h; cases h; simp [writeMem_cfg hw]
    | error e => rw [hw] at h; cases h
  · exact ((ExitsFrom.map _ (writeMem_exits ..)).exitOf t h).cfg

/-! ### Every input -/

theorem applyInput_cfg {i : Input} (h : applyInput i s = .next t) : t.cfg = s.cfg := by
  cases i with
  | loadRtit => exact loadRtit_cfg h
  | lockedAccess => exact lockedAccess_cfg h
  | wrmsr | vmEntry | invept | vmfunc0 | smmExit =>
    simp only [applyInput] at h
    split at h
    · cases h; simp
    · cases h
  | _ => cases h; simp

end

/-- Settles O8: a step runs an instruction or takes an input, and neither writes the configuration. -/
theorem configurationFixed : Obligations.ConfigurationFixed := by
  intro s t hstep
  cases step_next hstep with
  | instruction _ h => simpa using runInstruction_cfg h
  | storeMeanwhile _ h => simpa using runInstruction_cfg h
  | input _ _ _ h => simpa using applyInput_cfg h

end Sys2Proof.Machine
end

section
/-! What an input can do: most of them, like the checks of an access and a VM exit, change no more than `ControlOnly` says,
and every other one has a case of its own in `InputEffect` (10_state.md R47, R90; 50 R500, R520; 51 R540 to R557; 52 R580;
53 R591). -/

namespace Sys2Proof.Machine

/-! ### Control, translation and tracing -/

/-- What VM transitions, checks of accesses, Intel PT and fetching may change: RIP, VMX state, tracing, translation and the
model's own records. -/
def ControlOnly (s t : State) : Prop :=
  t = { s with
    rip := t.rip, nextRip := t.nextRip, vmx := t.vmx, pt := t.pt, paging := t.paging, stale := t.stale
    inputs := t.inputs, draws := t.draws, msr := { s.msr with rtitCtl := t.msr.rtitCtl } }

theorem ControlOnly.refl (s : State) : ControlOnly s s := rfl

theorem ControlOnly.trans {s t u : State} (h : ControlOnly s t) (k : ControlOnly t u) : ControlOnly s u := by
  unfold ControlOnly at *
  rw [k, h]

theorem AfterChecks.controlOnly {s t : State} (h : AfterChecks s t) : ControlOnly s t := by
  unfold ControlOnly
  rw [h]

theorem ControlOnly.tsc {s t : State} (h : ControlOnly s t) : t.tsc = s.tsc := by rw [h]

theorem ControlOnly.vmExit (s : State) (reason : ExitReason) (qual : Word64) : ControlOnly s (s.vmExit reason qual) := rfl

theorem ControlOnly.setVmx (s : State) (v : Vmx) : ControlOnly s { s with vmx := v } := rfl

theorem ExitOf.controlOnly {s t : State} (h : ExitOf s t) : ControlOnly s t := by
  cases h with
  | plain h => exact h.controlOnly.trans rfl
  | located h => exact h.controlOnly.trans rfl

/-- The state an instruction starts in, apart from the passing of time. -/
theorem State.begin_controlOnly (s : State) (len : Nat) : ControlOnly s (s.begin len) :=
  (s.fetched_spec.trans (touchCode_spec s.fetched len)).controlOnly.trans rfl

theorem State.setRtit_controlOnly (s : State) (v : Word64) : ControlOnly s (s.setRtit v) := rfl
theorem State.softwareRan_controlOnly (s : State) : ControlOnly s s.softwareRan := rfl

theorem State.loadGuest_controlOnly (s : State) : ControlOnly s s.loadGuest := by
  unfold State.loadGuest
  dsimp only
  split <;> rfl

theorem vmfunc0_controlOnly (s : State) (len : Nat) (ept : List EptEntry) : ControlOnly s (vmfunc0 s len ept) := by
  unfold vmfunc0
  split <;> rfl

theorem smmExit_controlOnly (s : State) : ControlOnly s (smmExit s) := by
  unfold smmExit
  dsimp only
  split <;> rfl

theorem setVmx_controlOnly (s : State) (mode : VmxMode) (vmcs : Vmcs) (ept : List EptEntry) (apic : Option Nat) :
    ControlOnly s (setVmx s mode vmcs ept apic) := rfl

theorem setEnclaveMode_controlOnly (s : State) (on : Bool) : ControlOnly s (setEnclaveMode s on) := rfl

/-- A VM entry transfers control, or it fails a control check (50 R520; 51 R543, R556). -/
theorem vmEntry_cases (s : State) (len : Nat) :
    vmEntry s len = entryFailControl s len ∨ ControlOnly s (vmEntry s len) := by
  unfold vmEntry
  split
  · exact .inl rfl
  · refine .inr (s.loadGuest_controlOnly.trans ?_)
    split <;> rfl

/-! ### Intel PT -/

theorem ptExit_controlOnly (s : State) (reason : ExitReason) (gpa : Nat) : ControlOnly s (ptExit s reason gpa) := by
  have drawn : ControlOnly s s.drawn.drawn.drawn := rfl
  exact drawn.trans ((ControlOnly.vmExit _ _ _).trans (ControlOnly.setVmx _ _))
theorem ptMisconfigured_controlOnly (s : State) : ControlOnly s (ptMisconfigured s) := rfl

theorem ptTranslate_error_controlOnly {s t : State} {k : AccessKind} {addr : Nat} (h : ptTranslate s k addr = .error t) :
    ControlOnly s t := by
  rcases ptTranslate_error h with ⟨reason, rfl⟩ | rfl
  · exact ptExit_controlOnly ..
  · exact ptMisconfigured_controlOnly s

theorem mapM_ptTranslate_error_controlOnly {s t : State} {k : AccessKind} {addrs : List Nat}
    (h : addrs.mapM (ptTranslate s k) = .error t) : ControlOnly s t := by
  obtain ⟨a, -, h⟩ := mapM_error h
  exact ptTranslate_error_controlOnly h

theorem ControlOnly.setPt (s : State) (p : PtBlocks) : ControlOnly s { s with pt := p } := rfl

/-- Trace bytes are stored, or nothing but control is transferred (51 R545, R553). -/
theorem ptOutput_cases (s : State) (addr : Nat) (bytes : List Byte) :
    (∃ cells, ptOutput s addr bytes = s.storeByAgent cells) ∨ ControlOnly s (ptOutput s addr bytes) := by
  unfold ptOutput
  split
  · split
    · split
      · rename_i h; exact .inr (mapM_ptTranslate_error_controlOnly h)
      · exact .inl ⟨_, rfl⟩
    · exact .inr rfl
  · exact .inr rfl

theorem ptRead_controlOnly (s : State) (addr len : Nat) : ControlOnly s (ptRead s addr len) := by
  unfold ptRead
  split
  · split
    · rename_i h; exact mapM_ptTranslate_error_controlOnly h
    · rfl
  · rfl

theorem ptLookup_controlOnly (s : State) (addr len : Nat) (stop : Bool) : ControlOnly s (ptLookup s addr len stop) := by
  unfold ptLookup
  split
  · dsimp only
    split
    · rename_i h; exact ptTranslate_error_controlOnly h
    · exact ControlOnly.setPt s _
  · exact .refl s

theorem ptAdvance_controlOnly (s : State) : ControlOnly s (ptAdvance s) := by
  unfold ptAdvance
  split <;> rfl

theorem ptPmlFull_controlOnly (s : State) : ControlOnly s (ptPmlFull s) := by
  unfold ptPmlFull
  split
  · exact (AfterChecks.drawn s).controlOnly.trans (ptExit_controlOnly ..)
  · exact .refl s

theorem loadRtit_controlOnly {s t : State} {via : RtitLoad} {v : Word64} (h : loadRtit s via v = .next t) :
    ControlOnly s t := by
  have loaded : ControlOnly s (if msrLegal s .rtitCtl v then s.setRtit v else s) := by split <;> rfl
  cases via with
  | msrLoadArea => cases h; exact loaded
  | rsm => cases h; exact loaded.trans rfl
  | xrstors =>
    simp only [loadRtit] at h
    split at h
    · cases h; rfl
    · split at h
      · cases h; rfl
      · cases h

/-! ### Locked accesses -/

/-- A locked access leaves the guest, or its bytes are stored where its checks put them (53 R591). -/
theorem lockedAccess_cases {s t : State} {seg : Seg} {off : Word64} {bytes : List Byte}
    (h : lockedAccess s seg off bytes = .next t) : ControlOnly s t ∨ ∃ (u : State) (pas : List Nat), ControlOnly s u ∧
      (∀ a ∈ pas, a < 2 ^ s.cfg.maxPhyAddr) ∧ t = (u.storeOwn (pas.zip bytes)).softwareRan := by
  unfold lockedAccess at h
  rcases finish_next h with h | h
  · cases hw : writeMem s Access.lockedWrite seg off bytes with
    | ok u =>
      rw [hw] at h
      cases h
      obtain ⟨pas, v, -, hv, -, hp, rfl⟩ := writeMem_spec hw
      exact .inr ⟨v, pas, hv.controlOnly, hp, rfl⟩
    | error e => rw [hw] at h; cases h
  · exact .inl ((ExitsFrom.map _ (writeMem_exits ..)).exitOf t h).controlOnly

/-! ### Every input -/

/-- What an input that gives a next state has done. -/
inductive InputEffect (s : State) : Input → State → Prop
  | control {i : Input} {t : State} (h : ControlOnly s t) : InputEffect s i t
  | store {i : Input} (cells : List (Nat × Byte)) : InputEffect s i (s.storeByAgent cells)
  | hfiUpdate {target : Nat} {rows : List HfiRow} {ts : Word64} {cp ce : Bool} :
      InputEffect s (.hfiUpdate target rows ts cp ce) (hfiUpdate s target rows ts cp ce)
  | hfiAcknowledge : InputEffect s .hfiAcknowledge (hfiAcknowledge s)
  | senter : InputEffect s .senter (senter s)
  | wrmsr {m : MsrName} {v : Word64} (h : msrLegal s m v = true) : InputEffect s (.wrmsr m v) (setMsr s m v).softwareRan
  | setTme {lock enable : Bool} {bits : Nat} {algs : BitVec 16} {keys : Nat} :
      InputEffect s (.setTme lock enable bits algs keys) (setTme s lock enable bits algs keys).softwareRan
  | reset : InputEffect s .reset (resetEvent s)
  | init : InputEffect s .init (initEvent s)
  | setSys {v : SysRegs} : InputEffect s (.setSys v) { s.softwareRan with sys := v.held s.cfg }
  | entryFailControl {len : Nat} : InputEffect s (.vmEntry len) (entryFailControl s len)
  | lockedStore {seg : Seg} {off : Word64} {bytes : List Byte} {u : State} {pas : List Nat} (h : ControlOnly s u)
      (hp : ∀ a ∈ pas, a < 2 ^ s.cfg.maxPhyAddr) :
      InputEffect s (.lockedAccess seg off bytes) (u.storeOwn (pas.zip bytes)).softwareRan
  | keyProgram {id : Nat} {k : KeySlot} : InputEffect s (.keyProgram id k) (keyProgramByOther s id k)
  | keyLock {l : KeyLock} : InputEffect s (.keyLock l)
      { s with keyTableLock := if s.cfg.logicalProcessors ≤ 1 then s.keyTableLock else l }

/-- An input that is refused in the wrong VMX mode, or faults, gives a next state only where it is not. -/
theorem next_of_ite {c : Prop} [Decidable c] {o : Host.Outcome State Fault Refusal} {s t : State}
    (h : (if c then .next s else o) = .next t) (ho : o ≠ .next t) : c ∧ s = t := by
  split at h
  · rename_i hc; exact ⟨hc, Host.Outcome.next.inj h⟩
  · exact absurd h ho

theorem vmEntry_effect (s : State) (len : Nat) : InputEffect s (.vmEntry len) (vmEntry s len) := by
  rcases vmEntry_cases s len with h | h
  · rw [h]; exact .entryFailControl
  · exact .control h

theorem ptOutput_effect (s : State) (addr : Nat) (bytes : List Byte) :
    InputEffect s (.ptOutput addr bytes) (ptOutput s addr bytes) := by
  rcases ptOutput_cases s addr bytes with ⟨cells, h⟩ | h
  · rw [h]; exact .store cells
  · exact .control h

theorem applyInput_effect {i : Input} {s t : State} (h : applyInput i s = .next t) : InputEffect s i t := by
  cases i with
  | instruction => cases h; exact .control (.refl s)
  | storeByAgent | storeMeanwhile => cases h; exact .store _
  | hfiUpdate => cases h; exact .hfiUpdate
  | hfiAcknowledge => cases h; exact .hfiAcknowledge
  | senter => cases h; exact .senter
  | wrmsr => obtain ⟨hl, rfl⟩ := next_of_ite h (by intro h; cases h); exact .wrmsr hl
  | setTme => cases h; exact .setTme
  | reset => cases h; exact .reset
  | init => cases h; exact .init
  | setSys => cases h; exact .setSys
  | setPaging => cases h; exact .control rfl
  | setVmx => cases h; exact .control (setVmx_controlOnly ..)
  | vmEntry => obtain ⟨-, rfl⟩ := next_of_ite h (by intro h; cases h); exact vmEntry_effect ..
  | hostResumes => cases h; exact .control rfl
  | invept => obtain ⟨-, rfl⟩ := next_of_ite h (by intro h; cases h); exact .control rfl
  | vmfunc0 => obtain ⟨-, rfl⟩ := next_of_ite h (by intro h; cases h); exact .control (vmfunc0_controlOnly ..)
  | ptOutput => cases h; exact ptOutput_effect ..
  | ptRead => cases h; exact .control (ptRead_controlOnly ..)
  | ptLookup => cases h; exact .control (ptLookup_controlOnly ..)
  | ptAdvance => cases h; exact .control (ptAdvance_controlOnly s)
  | loadRtit => exact .control (loadRtit_controlOnly h)
  | ptPmlFull => cases h; exact .control (ptPmlFull_controlOnly s)
  | smmExit => obtain ⟨-, rfl⟩ := next_of_ite h (by intro h; cases h); exact .control (smmExit_controlOnly s)
  | setEnclaveMode => cases h; exact .control (setEnclaveMode_controlOnly ..)
  | lockedAccess =>
    rcases lockedAccess_cases h with h | ⟨u, pas, hu, hp, rfl⟩
    · exact .control h
    · exact .lockedStore hu hp
  | keyProgram => cases h; exact .keyProgram
  | keyLock => cases h; exact .keyLock

end Sys2Proof.Machine
end

section
/-! What the last part of PCONFIG can do (44_pconfig.md R366, R367), and from 10_state.md R62: the time-stamp counter never
decreases but for RESET# and INIT#. -/

namespace Sys2Proof.Machine

/-! ### The end of PCONFIG -/

/-- PCONFIG ends with a write of RAX and of the status flags (R361). -/
theorem pconfigEnd_eq (s : State) (st : PconfigStatus) : ∃ v, pconfigEnd s st =
    ((s.setGpr64 rax v).setRflags (pconfigFlags s.rflags (decide (st ≠ .success)))).complete := by
  unfold pconfigEnd State.setGpr32
  split
  · exact ⟨_, rfl⟩
  · exact ⟨_, rfl⟩

/-- What PCONFIG leaves once its structure is read: a status, and after the tests of R366 perhaps a new entry of the key
table. -/
inductive PconfigEffect (s : State) (bs : List Byte) : State → Prop
  | report {u : State} (h : AfterChecks s u) (st : PconfigStatus) : PconfigEffect s bs (pconfigEnd u st)
  | write (hr : pconfigRefusal s bs = none) {u : State} (h : AfterChecks s u) (k : KeySlot) :
      PconfigEffect s bs (pconfigEnd (u.setKey (structKeyId bs) k) .success)

theorem pconfigProgram_effect {s u : State} {bs : List Byte} (hr : pconfigRefusal s bs = none) (h : AfterChecks s u) :
    PconfigEffect s bs (pconfigProgram u bs) := by
  unfold pconfigProgram
  dsimp only
  split
  · exact .write hr h _
  · split
    · exact .report (h.trans (.drawn u)) _
    · split
      · exact .report (h.trans (.trans (.drawn u) (.drawn _))) _
      · exact .write hr (h.trans (.trans (.drawn u) (.drawn _))) _
  · exact .write hr h _
  · exact .write hr h _

theorem pconfigKeyProgram_effect (s : State) (bs : List Byte) : PconfigEffect s bs (pconfigKeyProgram s bs) := by
  have lock := acquireKeyTable_spec s
  unfold pconfigKeyProgram
  split
  · exact .report (.refl s) _
  · rename_i hr
    split
    all_goals
      rename_i ha
      rw [ha] at lock
    · exact .report lock _
    · exact pconfigProgram_effect hr lock

/-- A KeyID that passes the tests is one of the table: 16 bits and not 0 (R364, R366; 10_state.md R66). -/
theorem structKeyId_of_refusal_none {s : State} {bs : List Byte} (h : pconfigRefusal s bs = none) :
    0 < structKeyId bs := by
  unfold pconfigRefusal at h
  split at h
  · cases h
  · split at h
    · cases h
    · rename_i hid; omega

/-! ### The time-stamp counter -/

theorem toNat_tscAdvance_ge (tsc : Word64) (d : Nat) : tsc.toNat ≤ (tscAdvance tsc d).toNat := by
  have := tsc.isLt
  rw [tscAdvance, BitVec.toNat_ofNat]
  omega

theorem State.tick_tsc_ge (s : State) : s.tsc.toNat ≤ s.tick.tsc.toNat := by
  rw [State.tick, State.tickMonitor_tsc]
  exact toNat_tscAdvance_ge _ _

theorem State.waitArmed_tsc_ge (s : State) : s.tsc.toNat ≤ s.waitArmed.tsc.toNat := by
  unfold State.waitArmed
  split
  · exact Nat.le_refl _
  · exact toNat_tscAdvance_ge _ _

@[simp] theorem pconfigEnd_tsc (s : State) (st : PconfigStatus) : (pconfigEnd s st).tsc = s.tsc := by
  obtain ⟨v, h⟩ := pconfigEnd_eq s st
  simp [h]

theorem PconfigEffect.tsc {s t : State} {bs : List Byte} (h : PconfigEffect s bs t) : t.tsc = s.tsc := by
  cases h with
  | report h => simp [h.tsc]
  | write _ h => simp [h.tsc]

/-- Only a wait lets the counter advance within an instruction (R62). -/
theorem Effect.tsc_ge {i : Instr} {s t : State} (h : Effect i s t) : s.tsc.toNat ≤ t.tsc.toNat := by
  cases h with
  | exit h => simp [h.controlOnly.tsc]
  | none h => simp [h.tsc]
  | vec h => simp [h.tsc]
  | mask _ h => simp [h.tsc]
  | store _ h => simp [h.tsc]
  | cpuid => simp
  | wbnoinvd => simp
  | pconfig _ h => rw [(pconfigKeyProgram_effect _ _).tsc, h.tsc]
  | tpause => exact toNat_tscAdvance_ge _ _
  | umwait => simpa using s.waitArmed_tsc_ge
  | umonitor _ h => simp [h.tsc]

theorem runInstruction_tsc_ge {s t : State} (h : runInstruction s = .next t) : s.tsc.toNat ≤ t.tsc.toNat := by
  obtain ⟨-, hexit | ⟨i, len, -, hexec⟩⟩ := runInstruction_next h
  · rw [hexit.controlOnly.tsc]
    exact s.tick_tsc_ge
  · have hb : (s.tick.begin len).tsc = s.tick.tsc := (s.tick.begin_controlOnly len).tsc
    calc s.tsc.toNat ≤ s.tick.tsc.toNat := s.tick_tsc_ge
      _ = (s.tick.begin len).tsc.toNat := by rw [hb]
      _ ≤ t.tsc.toNat := (exec_effect hexec).tsc_ge

section
variable (s : State)

@[simp] theorem hfiUpdate_tsc (target : Nat) (rows : List HfiRow) (ts : Word64) (cp ce : Bool) :
    (hfiUpdate s target rows ts cp ce).tsc = s.tsc := by
  unfold hfiUpdate
  split
  · rfl
  · dsimp only
    split
    · simp
    · rfl

@[simp] theorem hfiAcknowledge_tsc : (hfiAcknowledge s).tsc = s.tsc := by
  unfold hfiAcknowledge
  split <;> rfl

@[simp] theorem senter_tsc : (senter s).tsc = s.tsc := by simp [senter]

@[simp] theorem setMsr_tsc (m : MsrName) (v : Word64) : (setMsr s m v).tsc = s.tsc := by
  cases m with
  | hwFeedbackPtr => simp [setMsr]
  | hwFeedbackConfig => simp [setMsr]
  | _ => rfl

@[simp] theorem setTme_tsc (lock enable : Bool) (keyidBits : Nat) (algs : BitVec 16) (maxKeys : Nat) :
    (setTme s lock enable keyidBits algs maxKeys).tsc = s.tsc := by
  unfold setTme
  dsimp only
  split <;> rfl

@[simp] theorem keyProgramByOther_tsc (id : Nat) (k : KeySlot) : (keyProgramByOther s id k).tsc = s.tsc := by
  obtain ⟨t, h, -⟩ := keyProgramByOther_spec s id k
  rw [h]

end

/-- Inputs other than RESET# and INIT# leave the counter alone. -/
theorem InputEffect.tsc {i : Input} {s t : State} (h : InputEffect s i t) (hr : i ≠ .reset) (hi : i ≠ .init) :
    t.tsc = s.tsc := by
  cases h with
  | control h => exact h.tsc
  | store => simp
  | hfiUpdate => simp
  | hfiAcknowledge => simp
  | senter => simp
  | wrmsr => simp
  | setTme => simp
  | reset => exact absurd rfl hr
  | init => exact absurd rfl hi
  | setSys => rfl
  | entryFailControl => rfl
  | lockedStore h => simp [h.tsc]
  | keyProgram => simp
  | keyLock => rfl

/-- Settles O9: time passes at the step boundary and in waits, and no input but RESET# and INIT# writes the counter. -/
theorem tscNeverDecreases : Obligations.TscNeverDecreases := by
  intro s t hstep hreset hinit
  cases step_next hstep with
  | instruction _ h => simpa using runInstruction_tsc_ge h
  | storeMeanwhile _ h => simpa using runInstruction_tsc_ge h
  | input hi _ _ h =>
    rw [hi] at hreset hinit
    rw [(applyInput_effect h).tsc (fun e => hreset (by rw [e]; rfl)) (fun e => hinit (by rw [e]; rfl))]
    exact s.tick_tsc_ge

end Sys2Proof.Machine
end

section
/-! Which registers an instruction writes (10_state.md R32, R34, R37, R42, R45, R54, R66): each from the cases of
`Effect`. -/

namespace Sys2Proof.Machine

theorem ControlOnly.rflags {s t : State} (h : ControlOnly s t) : t.rflags = s.rflags := by rw [h]
theorem ControlOnly.gpr {s t : State} (h : ControlOnly s t) : t.gpr = s.gpr := by rw [h]
theorem ControlOnly.k {s t : State} (h : ControlOnly s t) : t.k = s.k := by rw [h]

/-! ### RFLAGS -/

/-- A write of the status flags leaves the other bits (R37). -/
theorem withStatus_other (f : Word64) (cf zf : Bool) : withStatus f cf zf &&& ~~~statusMask = f &&& ~~~statusMask := by
  have hc : flagBit flagCF cf &&& ~~~statusMask = 0#64 := by cases cf <;> decide
  have hz : flagBit flagZF zf &&& ~~~statusMask = 0#64 := by cases zf <;> decide
  simp only [withStatus, BitVec.and_comm _ (~~~statusMask), BitVec.and_or_distrib_left] at hc hz ⊢
  rw [hc, hz, ← BitVec.and_assoc, BitVec.and_self, BitVec.or_zero, BitVec.or_zero]

@[simp] theorem pconfigEnd_rflags (s : State) (st : PconfigStatus) :
    (pconfigEnd s st).rflags = pconfigFlags s.rflags (decide (st ≠ .success)) := by
  obtain ⟨v, h⟩ := pconfigEnd_eq s st
  rw [h]
  rfl

theorem PconfigEffect.rflags {s t : State} {bs : List Byte} (h : PconfigEffect s bs t) :
    ∃ zf, t.rflags = withStatus s.rflags false zf := by
  cases h with
  | report h st => exact ⟨decide (st ≠ .success), by simp [h.rflags, pconfigFlags]⟩
  | write _ h => exact ⟨false, by simp [h.rflags, pconfigFlags]⟩

/-- RFLAGS is as before, or one of three instructions has written its status flags. -/
theorem Effect.rflags {i : Instr} {s t : State} (h : Effect i s t) : t.rflags = s.rflags ∨
    ((∃ p, i = .pconfig p) ∨ (∃ p r, i = .tpause p r) ∨ (∃ p r, i = .umwait p r)) ∧
      ∃ cf zf, t.rflags = withStatus s.rflags cf zf := by
  cases h with
  | exit h => exact .inl h.controlOnly.rflags
  | none h => exact .inl h.rflags
  | vec h => exact .inl h.rflags
  | mask _ h => exact .inl h.rflags
  | store _ h => exact .inl (by simp [h.rflags])
  | cpuid => exact .inl (by simp)
  | wbnoinvd => exact .inl (by simp)
  | umonitor _ h => exact .inl h.rflags
  | pconfig hi h =>
    obtain ⟨zf, hz⟩ := (pconfigKeyProgram_effect _ _).rflags
    exact .inr ⟨.inl ⟨_, hi⟩, false, zf, by rw [hz, h.rflags]⟩
  | tpause hi => exact .inr ⟨.inr (.inl ⟨_, _, hi⟩), _, _, rfl⟩
  | umwait hi => exact .inr ⟨.inr (.inr ⟨_, _, hi⟩), _, _, rfl⟩

/-- Settles O13. -/
theorem rflagsWriters : Obligations.RflagsWriters := by
  intro i s t h
  rcases (exec_effect h).rflags with h | ⟨hi, cf, zf, h⟩
  · exact ⟨by rw [h], fun _ _ _ => h⟩
  · refine ⟨by rw [h, withStatus_other], fun hp ht hu => ?_⟩
    rcases hi with ⟨p, rfl⟩ | ⟨p, r, rfl⟩ | ⟨p, r, rfl⟩
    · exact absurd rfl (hp p)
    · exact absurd rfl (ht p r)
    · exact absurd rfl (hu p r)

/-! ### General registers -/

theorem State.gpr64_congr {s t : State} (h : t.gpr = s.gpr) (x : GReg) : t.gpr64 x = s.gpr64 x := by
  simp only [State.gpr64, h]

/-- PCONFIG's status goes to RAX (44_pconfig.md R361). -/
theorem pconfigEnd_gpr64_of_ne (s : State) (st : PconfigStatus) {x : GReg} (hx : x ≠ rax) :
    (pconfigEnd s st).gpr64 x = s.gpr64 x := by
  obtain ⟨v, h⟩ := pconfigEnd_eq s st
  rw [h, State.gpr64_complete, State.gpr64_setRflags, State.gpr64_setGpr64, if_neg hx]

theorem PconfigEffect.gpr64_of_ne {s t : State} {bs : List Byte} (h : PconfigEffect s bs t) {x : GReg} (hx : x ≠ rax) :
    t.gpr64 x = s.gpr64 x := by
  cases h with
  | report h => rw [pconfigEnd_gpr64_of_ne _ _ hx, State.gpr64_congr h.gpr]
  | write _ h => rw [pconfigEnd_gpr64_of_ne _ _ hx, State.gpr64_setKey, State.gpr64_congr h.gpr]

/-- CPUID's answer goes to RAX, RBX, RCX and RDX (40_cpuid_instruction.md R222). -/
theorem State.setCpuid_gpr64_of_ne (s : State) (o : CpuidOut) {x : GReg}
    (hx : ¬(x = rax ∨ x = rbx ∨ x = rcx ∨ x = rdx)) : (s.setCpuid o).gpr64 x = s.gpr64 x := by
  simp only [not_or] at hx
  obtain ⟨ha, hb, hc, hd⟩ := hx
  simp only [State.setCpuid, State.gpr64_setGpr64, if_neg ha, if_neg hb, if_neg hc, if_neg hd]

theorem Effect.gpr64 {i : Instr} {s t : State} (h : Effect i s t) (x : GReg) : t.gpr64 x = s.gpr64 x ∨
    ((∃ p, i = .cpuid p) ∧ (x = rax ∨ x = rbx ∨ x = rcx ∨ x = rdx)) ∨ ((∃ p, i = .pconfig p) ∧ x = rax) := by
  have kept (e : t.gpr = s.gpr) : t.gpr64 x = s.gpr64 x := State.gpr64_congr e x
  cases h with
  | exit h => exact .inl (kept h.controlOnly.gpr)
  | none h => exact .inl (kept h.gpr)
  | vec h => exact .inl (kept h.gpr)
  | mask _ h => exact .inl (kept h.gpr)
  | store _ h => exact .inl (kept (by simp [h.gpr]))
  | wbnoinvd => exact .inl rfl
  | tpause => exact .inl rfl
  | umwait => exact .inl (kept (by simp))
  | umonitor _ h => exact .inl (kept h.gpr)
  | cpuid hi o =>
    by_cases hx : x = rax ∨ x = rbx ∨ x = rcx ∨ x = rdx
    · exact .inr (.inl ⟨⟨_, hi⟩, hx⟩)
    · exact .inl (s.loadBiosSign.setCpuid_gpr64_of_ne o hx)
  | pconfig hi h =>
    by_cases hx : x = rax
    · exact .inr (.inr ⟨⟨_, hi⟩, hx⟩)
    · exact .inl (by rw [(pconfigKeyProgram_effect _ _).gpr64_of_ne hx, State.gpr64_congr h.gpr])

/-- Settles O14. -/
theorem gprWriters : Obligations.GprWriters := by
  intro i s t x h hne
  exact ((exec_effect h).gpr64 x).resolve_left hne

/-! ### Opmask registers -/

theorem sameMasks_of_k {s t : State} (h : t.k = s.k) : SameMasks s t := fun r => by simp only [State.opmask, h]

@[simp] theorem pconfigEnd_k (s : State) (st : PconfigStatus) : (pconfigEnd s st).k = s.k := by
  obtain ⟨v, h⟩ := pconfigEnd_eq s st
  rw [h]
  rfl

theorem PconfigEffect.k {s t : State} {bs : List Byte} (h : PconfigEffect s bs t) : t.k = s.k := by
  cases h with
  | report h => simp [h.k]
  | write _ h => simp [h.k]

theorem Effect.k {i : Instr} {s t : State} (h : Effect i s t) (hi : ∀ e rm, i ∉ shufBitRows e rm) : t.k = s.k := by
  cases h with
  | exit h => exact h.controlOnly.k
  | none h => exact h.k
  | vec h => exact h.k
  | mask hm => exact absurd hm (hi _ _)
  | store _ h => simp [h.k]
  | cpuid => simp
  | wbnoinvd => rfl
  | pconfig _ h => rw [(pconfigKeyProgram_effect _ _).k, h.k]
  | tpause => rfl
  | umwait => simp
  | umonitor _ h => exact h.k

/-- Settles O17. -/
theorem opmaskWriters : Obligations.OpmaskWriters := by
  intro i s t h h128 h256 h512
  refine sameMasks_of_k ((exec_effect h).k fun e rm => ?_)
  simp [shufBitRows, h128 e rm, h256 e rm, h512 e rm]

/-! ### RIP -/

theorem AfterChecks.handedOver {s t : State} (h : AfterChecks s t) : t.vmx.handedOver = s.vmx.handedOver := by rw [h.vmx]

/-- A VM exit leaves RIP at the instruction, and there it is saved (50 R510; 51 R548). -/
theorem ExitOf.left {s t : State} (h : ExitOf s t) :
    t.rip = s.rip ∧ t.vmx.handedOver = true ∧ t.vmx.mode = .root ∧ t.vmx.vmcs.guestRip = s.rip := by
  cases h with
  | plain h => exact ⟨h.rip, rfl, rfl, h.rip⟩
  | located h => exact ⟨h.rip, rfl, rfl, h.rip⟩

theorem pconfigEnd_rip (s : State) (st : PconfigStatus) :
    (pconfigEnd s st).rip = s.nextRip ∧ (pconfigEnd s st).vmx = s.vmx := by
  obtain ⟨v, h⟩ := pconfigEnd_eq s st
  rw [h]
  exact ⟨rfl, rfl⟩

theorem PconfigEffect.rip {s t : State} {bs : List Byte} (h : PconfigEffect s bs t) :
    t.rip = s.nextRip ∧ t.vmx.handedOver = s.vmx.handedOver := by
  cases h with
  | report h st => exact ⟨(pconfigEnd_rip _ st).1.trans h.nextRip, by rw [(pconfigEnd_rip _ st).2, h.handedOver]⟩
  | write _ h => exact ⟨(pconfigEnd_rip _ _).1.trans h.nextRip, by rw [(pconfigEnd_rip _ _).2]; exact h.handedOver⟩

/-- An instruction goes on to the next one, or it leaves the guest. -/
theorem Effect.next_or_left {i : Instr} {s t : State} (h : Effect i s t) :
    (t.rip = s.nextRip ∧ t.vmx.handedOver = s.vmx.handedOver) ∨ ExitOf s t := by
  cases h with
  | exit h => exact .inr h
  | none h => exact .inl ⟨h.nextRip, h.handedOver⟩
  | vec h => exact .inl ⟨h.nextRip, h.handedOver⟩
  | mask _ h => exact .inl ⟨h.nextRip, h.handedOver⟩
  | store _ h => exact .inl ⟨by simp [h.nextRip], by simp [h.handedOver]⟩
  | cpuid => exact .inl ⟨rfl, rfl⟩
  | wbnoinvd => exact .inl ⟨rfl, rfl⟩
  | pconfig _ h =>
    obtain ⟨hr, hv⟩ := (pconfigKeyProgram_effect _ _).rip
    exact .inl ⟨hr.trans h.nextRip, hv.trans h.handedOver⟩
  | tpause => exact .inl ⟨rfl, rfl⟩
  | umwait => exact .inl ⟨by simp, by simp⟩
  | umonitor _ h => exact .inl ⟨h.nextRip, h.handedOver⟩

/-- Settles O18. -/
theorem ripAdvances : Obligations.RipAdvances := by
  intro i s t hs h
  rcases (exec_effect h).next_or_left with ⟨hr, hv⟩ | hexit
  · exact .inl ⟨hr, hv.trans hs⟩
  · exact .inr hexit.left

/-! ### The system state -/

@[simp] theorem pconfigEnd_msr (s : State) (st : PconfigStatus) : (pconfigEnd s st).msr = s.msr := by
  obtain ⟨v, h⟩ := pconfigEnd_eq s st
  rw [h]
  rfl

theorem pconfigEnd_sameSystem (s : State) (st : PconfigStatus) : SameSystem s (pconfigEnd s st) := by
  obtain ⟨v, h⟩ := pconfigEnd_eq s st
  rw [h]
  exact ⟨rfl, rfl, rfl, rfl, rfl, rfl, rfl⟩

theorem SameSystem.trans {s t u : State} (h : SameSystem s t) (k : SameSystem t u) : SameSystem s u := by
  obtain ⟨hc, hs, hh, hp, hi, hl, hv⟩ := h
  obtain ⟨kc, ks, kh, kp, ki, kl, kv⟩ := k
  exact ⟨kc.trans hc, ks.trans hs, kh.trans hh, kp.trans hp, ki.trans hi, kl.trans hl, by rw [kv, hv]⟩

theorem State.storeOwn_sameSystem (s : State) (cells : List (Nat × Byte)) : SameSystem s (s.storeOwn cells) :=
  ⟨by simp, by simp, by simp, by simp, by simp, by simp, by simp⟩

theorem PconfigEffect.sameSystem {s t : State} {bs : List Byte} (h : PconfigEffect s bs t) :
    SameSystem s t ∧ t.msr = s.msr := by
  cases h with
  | report h => exact ⟨h.sameSystem.trans (pconfigEnd_sameSystem ..), by simp [h.msr]⟩
  | write _ h =>
    have key := h.sameSystem
    exact ⟨key.trans (pconfigEnd_sameSystem (State.setKey _ _ _) _), by simp [h.msr]⟩

/-- Without leaving the guest an instruction writes no system state but what it is for. -/
theorem Effect.system {i : Instr} {s t : State} (h : Effect i s t) : ExitOf s t ∨
    SameSystem s t ∧ (t.msr = s.msr ∨ ((∃ p, i = .cpuid p) ∧ t.msr = { s.msr with biosSignId := t.msr.biosSignId })) ∧
      (t.keyTable = s.keyTable ∨ ∃ p, i = .pconfig p) := by
  cases h with
  | exit h => exact .inl h
  | none h => exact .inr ⟨h.sameSystem, .inl h.msr, .inl h.keyTable⟩
  | vec h => exact .inr ⟨h.sameSystem, .inl h.msr, .inl h.keyTable⟩
  | mask _ h => exact .inr ⟨h.sameSystem, .inl h.msr, .inl h.keyTable⟩
  | store _ h =>
    exact .inr ⟨h.sameSystem.trans (State.storeOwn_sameSystem ..), .inl (by simp [h.msr]), .inl (by simp [h.keyTable])⟩
  | cpuid hi => exact .inr ⟨⟨rfl, rfl, rfl, rfl, rfl, rfl, rfl⟩, .inr ⟨⟨_, hi⟩, rfl⟩, .inl rfl⟩
  | wbnoinvd => exact .inr ⟨⟨rfl, rfl, rfl, rfl, rfl, rfl, rfl⟩, .inl rfl, .inl rfl⟩
  | pconfig hi h =>
    obtain ⟨hs, hm⟩ := (pconfigKeyProgram_effect _ _).sameSystem
    exact .inr ⟨h.sameSystem.trans hs, .inl (hm.trans h.msr), .inr ⟨_, hi⟩⟩
  | tpause => exact .inr ⟨⟨rfl, rfl, rfl, rfl, rfl, rfl, rfl⟩, .inl rfl, .inl rfl⟩
  | umwait =>
    exact .inr ⟨⟨by simp, by simp, by simp, by simp, by simp, by simp, by simp⟩, .inl (by simp), .inl (by simp)⟩
  | umonitor _ h => exact .inr ⟨h.sameSystem, .inl h.msr, .inl h.keyTable⟩

/-- Settles O15. -/
theorem systemStateKept : Obligations.SystemStateKept := by
  intro i s t _ h ht
  rcases (exec_effect h).system with hexit | hkept
  · rw [hexit.left.2.1] at ht; cases ht
  · exact hkept

end Sys2Proof.Machine
end

section
/-! The availability test bit by bit (10_state.md R44; 60_exceptions.md R606, R611, R612), and the values after reset
(10_state.md R90; 70_reset_and_hazards.md R670, R671). -/

namespace Sys2Proof.Machine

/-! ### The availability test -/

/-- A register has all bits of a mask exactly where it has each of them. -/
theorem all_bit_eq_decide {m : Word64} {places : List Nat} (hm : ∀ i < 64, m.getLsbD i = decide (i ∈ places))
    (hp : ∀ i ∈ places, i < 64) (v : Word64) : places.all (bit v) = decide (v &&& m = m) := by
  rw [Bool.eq_iff_iff, List.all_eq_true, decide_eq_true_iff]
  constructor
  · intro h
    refine BitVec.eq_of_getLsbD_eq fun i hi => ?_
    rw [BitVec.getLsbD_and]
    by_cases hb : i ∈ places
    · rw [show v.getLsbD i = true from h i hb, Bool.true_and]
    · rw [hm i hi, decide_eq_false hb, Bool.and_false]
  · intro h i hi
    have hb : m.getLsbD i = true := by rw [hm i (hp i hi), decide_eq_true hi]
    rw [← h, BitVec.getLsbD_and, Bool.and_eq_true] at hb
    exact hb.1

/-- XCR0 enables SSE and AVX state (R43, R44). -/
theorem xcr0_avx_bits (v : Word64) : (bit v 1 && bit v 2) = decide (v &&& 0x06#64 = 0x06#64) := by
  rw [← all_bit_eq_decide (places := [1, 2]) (by decide) (by decide)]
  simp

/-- XCR0 enables AVX-512 state too. -/
theorem xcr0_avx512_bits (v : Word64) :
    (bit v 1 && bit v 2 && bit v 5 && bit v 6 && bit v 7) = decide (v &&& 0xE6#64 = 0xE6#64) := by
  rw [← all_bit_eq_decide (places := [1, 2, 5, 6, 7]) (by decide) (by decide)]
  simp [Bool.and_assoc]

/-- #UD without the encoding, the features or the state; then #NM with CR0.TS (R606). -/
theorem vecReady_eq (s : State) (r : VecRow) (legal : Bool) : vecReady s r legal =
    if (legal && hasAll s r.cell && stateEnabled s r.form) = false then .error (.fault .undefinedOpcode)
    else if bit s.sys.cr0 3 = true then .error (.fault (.exception .nm none none))
    else .ok () := by
  split
  · rename_i h; exact vecReady_ud h
  · rename_i h
    rw [Bool.not_eq_false] at h
    split
    · rename_i hts; simp [vecReady, h, hts, raise, errorCode]
    · rename_i hts; simp [vecReady, h, hts]

/-- Settles O12: the state-enable condition of each class is the test of its bits. -/
theorem availabilityTest : Obligations.AvailabilityTest := by
  intro s r legal on
  have enabled : stateEnabled s r.form = on := by
    subst on
    cases r.form with
    | sse => rfl
    | vex => simp only [stateEnabled, ← xcr0_avx_bits, Bool.and_assoc]; rfl
    | evex => simp only [stateEnabled, ← xcr0_avx512_bits, Bool.and_assoc]; rfl
  rw [vecReady_eq, enabled]
  rfl

/-! ### Reset -/

theorem bit_clearBit_same (v : Word64) {n : Nat} (hn : n < 64) : bit (clearBit v n) n = false := by
  simp [bit, clearBit, hn]

/-- What reset states whatever the other components are (R90, R670). -/
theorem State.powerUp_values (u : State) :
    u.powerUp.msr.hwFeedbackPtr = 0#64 ∧ u.powerUp.msr.hwFeedbackConfig = 0#64 ∧ u.powerUp.keyTableLock = .unlocked ∧
      (∀ id, (keySlot u.powerUp.keyTable id).mode = .encryptWithTmeKey) ∧ bit u.powerUp.msr.miscEnable 22 = false ∧
      u.powerUp.monitor = none ∧ u.powerUp.hfi.interruptPending = false :=
  ⟨rfl, rfl, rfl, fun _ => rfl, bit_clearBit_same _ (by decide), rfl, rfl⟩

/-- Settles O5. -/
theorem resetAndInitValues : Obligations.ResetAndInitValues := by
  intro s
  refine ⟨?_, rfl, rfl⟩
  rintro t (rfl | rfl)
  · exact State.unstated.powerUp_values
  · exact s.scrambled.powerUp_values

/-- After reset the reserved bits read 0 (93_implementation_defined.md U30, U32). -/
theorem reservedZero_reset : State.reset.ReservedZero := by
  refine ⟨fun m => ?_, by decide⟩
  have zero : State.reset.msr.value m = 0#64 := by cases m <;> rfl
  rw [zero, BitVec.zero_and]

/-- Settles O6. -/
theorem invariantAtReset : Obligations.InvariantAtReset :=
  ⟨⟨.nil, by simp [State.reset, State.powerUp, State.unstated]⟩, by simp [State.reset, State.powerUp, State.unstated],
    ⟨.nil, by simp [State.reset, State.powerUp]⟩, rfl, by simp [State.reset, State.powerUp], reservedZero_reset,
    fun _ => rfl, fun _ => rfl⟩

end Sys2Proof.Machine
end

section
/-! The invariant that every step keeps (10_state.md R36, R43, R48 to R56, R66, R67; 20_memory.md R101; 45_waitpkg.md R382;
52_hardware_feedback_interface.md R576), in three parts that read different fields: memory with the monitor, the key table
with its lock, the registers. -/

namespace Sys2Proof.Machine

/-! ### The parts of the invariant -/

/-- Memory in canonical form and inside the physical address space, the monitored block aligned. -/
structure State.MemInv (s : State) : Prop where
  wf : Memory.wf s.mem
  inside : ∀ c ∈ s.mem, c.1 < 2 ^ s.cfg.maxPhyAddr
  aligned : ∀ b, s.monitor = some b → b % monitorSize s.cfg = 0

/-- The key table in canonical form, the lock of a single processor open. -/
structure State.KeyInv (s : State) : Prop where
  wf : KeyTable.wf s.keyTable
  lock : s.cfg.logicalProcessors ≤ 1 → s.keyTableLock = .unlocked

/-- The registers that have reserved bits hold 0 in all bits but those of `w`. -/
structure Msrs.Within (r : Msrs) (w : MsrName → Word64) : Prop where
  umwaitControl : r.umwaitControl.setWidth 64 &&& ~~~(w .umwaitControl) = 0#64
  testCtl : r.testCtl.setWidth 64 &&& ~~~(w .testCtl) = 0#64
  hwFeedbackPtr : r.hwFeedbackPtr &&& ~~~(w .hwFeedbackPtr) = 0#64
  hwFeedbackConfig : r.hwFeedbackConfig &&& ~~~(w .hwFeedbackConfig) = 0#64
  packageThermStatus : r.packageThermStatus &&& ~~~(w .packageThermStatus) = 0#64
  packageThermInterrupt : r.packageThermInterrupt &&& ~~~(w .packageThermInterrupt) = 0#64
  xss : r.xss &&& ~~~(w .xss) = 0#64

/-- The fixed bits of RFLAGS, the reserved bits of the MSRs and of XCR0, and no feedback update in progress while the status
bit is 1. -/
structure State.RegInv (s : State) : Prop where
  flags : fixedFlags s.rflags = s.rflags
  msr : s.msr.Within (msrWritable s)
  xcr0 : s.sys.xcr0 &&& ~~~(xcr0Legal s.cfg) = 0#64
  noUpdate : bit s.msr.packageThermStatus hfiStatusBit = true → s.hfi.inFlight = []

/-- The three parts. -/
structure State.Parts (s : State) : Prop where
  mem : s.MemInv
  key : s.KeyInv
  reg : s.RegInv

theorem within_iff (s : State) :
    s.msr.Within (msrWritable s) ↔ ∀ m, s.msr.value m &&& ~~~(msrWritable s m) = 0#64 := by
  constructor
  · intro h m
    cases m with
    | umwaitControl => exact h.umwaitControl
    | testCtl => exact h.testCtl
    | hwFeedbackPtr => exact h.hwFeedbackPtr
    | hwFeedbackConfig => exact h.hwFeedbackConfig
    | packageThermStatus => exact h.packageThermStatus
    | packageThermInterrupt => exact h.packageThermInterrupt
    | xss => exact h.xss
    | _ => simp [msrWritable]
  · intro h
    exact ⟨h .umwaitControl, h .testCtl, h .hwFeedbackPtr, h .hwFeedbackConfig, h .packageThermStatus,
      h .packageThermInterrupt, h .xss⟩

theorem State.inv_iff_parts (s : State) : s.Inv ↔ s.Parts := by
  constructor
  · rintro ⟨hm, hin, hk, hf, ha, ⟨hr, hx⟩, hl, hu⟩
    exact ⟨⟨hm, hin, ha⟩, ⟨hk, hl⟩, ⟨hf, (within_iff s).mpr hr, hx, hu⟩⟩
  · rintro ⟨⟨hm, hin, ha⟩, ⟨hk, hl⟩, ⟨hf, hr, hx, hu⟩⟩
    exact ⟨hm, hin, hk, hf, ha, ⟨(within_iff s).mp hr, hx⟩, hl, hu⟩

/-! ### What each part reads -/

theorem State.MemInv.congr {s t : State} (h : s.MemInv) (hc : t.cfg = s.cfg) (hm : t.mem = s.mem)
    (hmon : t.monitor = s.monitor ∨ t.monitor = none) : t.MemInv where
  wf := hm ▸ h.wf
  inside := by rw [hm, hc]; exact h.inside
  aligned b hb := by
    rw [hc]
    rcases hmon with e | e
    · exact h.aligned b (e ▸ hb)
    · rw [e] at hb; cases hb

theorem State.KeyInv.congr {s t : State} (h : s.KeyInv) (hc : t.cfg = s.cfg) (hk : t.keyTable = s.keyTable)
    (hl : t.keyTableLock = s.keyTableLock) : t.KeyInv where
  wf := hk ▸ h.wf
  lock := by rw [hc, hl]; exact h.lock

/-- Which bits may be set is the configuration's. -/
theorem msrWritable_congr {s t : State} (hc : t.cfg = s.cfg) : msrWritable t = msrWritable s := by
  funext m
  simp only [msrWritable, hc]

theorem State.RegInv.congr {s t : State} (h : s.RegInv) (hc : t.cfg = s.cfg) (hf : t.rflags = s.rflags)
    (hm : ∀ w, s.msr.Within w → t.msr.Within w) (hst : t.msr.packageThermStatus = s.msr.packageThermStatus)
    (hs : t.sys = s.sys) (hh : t.hfi = s.hfi) : t.RegInv where
  flags := hf ▸ h.flags
  msr := msrWritable_congr hc ▸ hm _ h.msr
  xcr0 := by rw [hs, hc]; exact h.xcr0
  noUpdate := by rw [hst, hh]; exact h.noUpdate

theorem ControlOnly.cfg {s t : State} (h : ControlOnly s t) : t.cfg = s.cfg := by rw [h]

theorem ControlOnly.parts {s t : State} (h : ControlOnly s t) (hs : s.Parts) : t.Parts := by
  rw [h]
  exact
    { mem := { hs.mem with }, key := { hs.key with }
      reg := { hs.reg with msr := { hs.reg.msr with } } }

/-! ### Memory and the monitor -/

theorem State.MemInv.storeOwn {s : State} (h : s.MemInv) {cells : List (Nat × Byte)}
    (hc : ∀ c ∈ cells, c.1 < 2 ^ s.cfg.maxPhyAddr) : (s.storeOwn cells).MemInv := by
  obtain ⟨hm, hmon⟩ := s.storeOwn_spec cells
  have stored : ({ s with mem := memSetMany s.mem cells } : State).MemInv :=
    { h with wf := memSetMany_wf _ _ h.wf, inside := memSetMany_inside _ _ _ h.inside hc }
  exact stored.congr (s.storeOwn_cfg cells) hm hmon

theorem State.MemInv.storeByAgent {s : State} (h : s.MemInv) (cells : List (Nat × Byte)) :
    (s.storeByAgent cells).MemInv := by
  obtain ⟨hm, hmon⟩ := s.storeByAgent_spec cells
  have stored : ({ s with mem := memSetMany s.mem (cellsInside s.cfg cells) } : State).MemInv :=
    { h with
      wf := memSetMany_wf _ _ h.wf
      inside := memSetMany_inside _ _ _ h.inside fun c hc => ((mem_cellsInside _ _ c).mp hc).2 }
  refine stored.congr (s.storeByAgent_cfg cells) hm ?_
  rw [hmon]
  split
  · exact .inr rfl
  · exact .inl rfl

/-- The monitored block starts at a multiple of its size (45_waitpkg.md R382, D38). -/
theorem monitorBlock_aligned (c : Cfg) (pa : Nat) : pa / monitorSize c * monitorSize c % monitorSize c = 0 :=
  Nat.mul_mod_left _ _

theorem State.MemInv.arm {s : State} (h : s.MemInv) (pa : Nat) : (s.arm pa).MemInv where
  wf := h.wf
  inside := h.inside
  aligned b hb := by
    simp only [State.arm] at hb
    split at hb
    · cases hb; exact monitorBlock_aligned s.cfg pa
    · cases hb

theorem State.tick_monitor (s : State) : s.tick.monitor = s.monitor ∨ s.tick.monitor = none := by
  unfold State.tick State.tickMonitor
  split
  · exact .inl rfl
  · rename_i hb
    dsimp only
    split
    · exact .inr rfl
    · exact .inl hb.symm

theorem State.afterWait_monitor (s : State) : s.afterWait.monitor = s.monitor ∨ s.afterWait.monitor = none := by
  unfold State.afterWait
  split
  · exact .inl rfl
  · rename_i hb
    dsimp only
    split
    · exact .inl hb.symm
    · exact .inr rfl

theorem State.Parts.storeByAgent {s : State} (h : s.Parts) (cells : List (Nat × Byte)) : (s.storeByAgent cells).Parts where
  mem := h.mem.storeByAgent cells
  key := h.key.congr (by simp) (by simp) (by simp)
  reg := h.reg.congr (by simp) (by simp) (by simp) (by simp) (by simp) (by simp)

theorem State.Parts.storeOwn {s : State} (h : s.Parts) {pas : List Nat} (hp : ∀ a ∈ pas, a < 2 ^ s.cfg.maxPhyAddr)
    (bs : List Byte) : (s.storeOwn (pas.zip bs)).Parts where
  mem := h.mem.storeOwn fun c hc => hp c.1 (List.of_mem_zip hc).1
  key := h.key.congr (by simp) (by simp) (by simp)
  reg := h.reg.congr (by simp) (by simp) (by simp) (by simp) (by simp) (by simp)

theorem State.Parts.storeEarly {s : State} (h : s.Parts) (pa : Nat) (bytes : List Byte) :
    (s.storeEarly pa bytes).Parts :=
  have stored := h.storeByAgent (landing s true pa bytes)
  { mem := { stored.mem with }, key := { stored.key with }, reg := { stored.reg with } }

/-! ### RFLAGS -/

/-- The bits of RFLAGS that are not fixed (R36). -/
def freeFlags : Word64 := 0x3F7FD5#64

theorem fixedFlags_eq (v : Word64) : fixedFlags v = (v &&& freeFlags) ||| 2#64 := rfl

/-- RFLAGS reads as its fixed bits say exactly where bit 1 alone is left with the free ones masked out. -/
theorem fixedFlags_eq_self_iff (v : Word64) : fixedFlags v = v ↔ v &&& ~~~freeFlags = 2#64 := by
  have free : freeFlags &&& ~~~freeFlags = 0#64 := by decide
  constructor
  · intro h
    calc v &&& ~~~freeFlags = ((v &&& freeFlags) ||| 2#64) &&& ~~~freeFlags := by rw [← fixedFlags_eq, h]
      _ = 2#64 := by rw [BitVec.and_or_distrib_right, BitVec.and_assoc, free]; simp; decide
  · intro h
    calc fixedFlags v = v &&& freeFlags ||| v &&& ~~~freeFlags := by rw [h]; rfl
      _ = v := by
        rw [← BitVec.and_or_distrib_left, show freeFlags ||| ~~~freeFlags = BitVec.allOnes 64 by decide,
          BitVec.and_allOnes]

theorem fixedFlags_fixedFlags (v : Word64) : fixedFlags (fixedFlags v) = fixedFlags v := by
  have free : freeFlags &&& ~~~freeFlags = 0#64 := by decide
  rw [fixedFlags_eq_self_iff]
  show ((v &&& freeFlags) ||| 2#64) &&& ~~~freeFlags = 2#64
  rw [BitVec.and_or_distrib_right, BitVec.and_assoc, free]
  simp
  decide

/-- A write of status flags, given or free, leaves the fixed bits. -/
theorem fixedFlags_statusWrite {f x : Word64} (h : fixedFlags f = f) (hx : x &&& ~~~statusMask = 0#64) :
    fixedFlags ((f &&& ~~~statusMask) ||| x) = (f &&& ~~~statusMask) ||| x := by
  have sub : ~~~freeFlags = ~~~statusMask &&& ~~~freeFlags := by decide
  rw [fixedFlags_eq_self_iff] at h ⊢
  rw [BitVec.and_or_distrib_right, BitVec.and_assoc, ← sub, h, sub, ← BitVec.and_assoc, hx]
  simp

theorem fixedFlags_withStatus {f : Word64} (h : fixedFlags f = f) (cf zf : Bool) :
    fixedFlags (withStatus f cf zf) = withStatus f cf zf := by
  rw [withStatus, BitVec.or_assoc]
  exact fixedFlags_statusWrite h (by cases cf <;> cases zf <;> decide)

theorem fixedFlags_vmFailFlags {f : Word64} (h : fixedFlags f = f) (free : Word64) :
    fixedFlags (vmFailFlags f free) = vmFailFlags f free := by
  have masked : statusMask &&& ~~~statusMask = 0#64 := by decide
  have zf : flagBit flagZF true &&& ~~~statusMask = 0#64 := by decide
  rw [vmFailFlags, BitVec.or_assoc]
  refine fixedFlags_statusWrite h ?_
  rw [BitVec.and_or_distrib_right, BitVec.and_assoc, masked, zf]
  simp

/-! ### Instructions -/

theorem State.RegInv.setRflags {s : State} (h : s.RegInv) {v : Word64} (hv : fixedFlags v = v) :
    (s.setRflags v).RegInv := { h with flags := hv }

theorem State.Parts.pconfigEnd {s : State} (h : s.Parts) (st : PconfigStatus) : (pconfigEnd s st).Parts := by
  obtain ⟨v, e⟩ := pconfigEnd_eq s st
  rw [e]
  exact
    { mem := { h.mem with }, key := { h.key with }
      reg := { h.reg with flags := fixedFlags_withStatus h.reg.flags _ _ } }

theorem AfterChecks.parts {s t : State} (h : AfterChecks s t) (hs : s.Parts) : t.Parts := h.controlOnly.parts hs

theorem bytesValue_lt (bs : List Byte) : bytesValue bs < 256 ^ bs.length := by
  induction bs with
  | nil => decide
  | cons b bs ih =>
    have hb := b.isLt
    simp only [bytesValue, List.length_cons, Nat.pow_succ]
    omega

/-- The field of a KeyID has 16 bits (44_pconfig.md R364). -/
theorem structKeyId_lt (bs : List Byte) : structKeyId bs < 65536 := by
  have len : ((bs.drop 0).take 2).length ≤ 2 := List.length_take_le _ _
  calc structKeyId bs < 256 ^ ((bs.drop 0).take 2).length := bytesValue_lt _
    _ ≤ 256 ^ 2 := Nat.pow_le_pow_right (by decide) len

theorem PconfigEffect.parts {s t : State} {bs : List Byte} (h : PconfigEffect s bs t) (hs : s.Parts) : t.Parts := by
  cases h with
  | report h st => exact (h.parts hs).pconfigEnd st
  | @write hr u h k =>
    have hu := h.parts hs
    have key : (u.setKey (structKeyId bs) k).KeyInv :=
      { hu.key with wf := setKeySlot_wf _ _ _ hu.key.wf (structKeyId_of_refusal_none hr) (structKeyId_lt bs) }
    have written : (u.setKey (structKeyId bs) k).Parts :=
      { mem := { hu.mem with }, key := key, reg := { hu.reg with } }
    exact written.pconfigEnd _

/-- A write of registers other than RFLAGS and MSRs with reserved bits leaves the invariant. -/
theorem Effect.parts {i : Instr} {s t : State} (h : Effect i s t) (hs : s.Parts) : t.Parts := by
  cases h with
  | exit h => exact h.controlOnly.parts hs
  | none h =>
    have hu := h.parts hs
    exact { mem := { hu.mem with }, key := { hu.key with }, reg := { hu.reg with } }
  | vec h =>
    have hu := h.parts hs
    exact { mem := { hu.mem with }, key := { hu.key with }, reg := { hu.reg with } }
  | mask _ h =>
    have hu := h.parts hs
    exact { mem := { hu.mem with }, key := { hu.key with }, reg := { hu.reg with } }
  | store _ h bs hp =>
    have hu := (h.parts hs).storeOwn (h.cfg ▸ hp) bs
    exact { mem := { hu.mem with }, key := { hu.key with }, reg := { hu.reg with } }
  | cpuid =>
    exact { mem := { hs.mem with }, key := { hs.key with }, reg := { hs.reg with msr := { hs.reg.msr with } } }
  | wbnoinvd => exact { mem := { hs.mem with }, key := { hs.key with }, reg := { hs.reg with } }
  | pconfig _ h bs => exact (pconfigKeyProgram_effect _ bs).parts (h.parts hs)
  | tpause =>
    exact
      { mem := { hs.mem with }, key := { hs.key with }
        reg := { hs.reg with flags := fixedFlags_withStatus hs.reg.flags _ _ } }
  | umwait =>
    have waited : s.waitArmed.afterWait.Parts :=
      { mem := hs.mem.congr (by simp) (by simp) (by simpa using s.waitArmed.afterWait_monitor)
        key := hs.key.congr (by simp) (by simp) (by simp)
        reg := hs.reg.congr (by simp) (by simp) (by simp) (by simp) (by simp) (by simp) }
    exact
      { mem := { waited.mem with }, key := { waited.key with }
        reg := { waited.reg with flags := fixedFlags_withStatus hs.reg.flags _ _ } }
  | umonitor _ h pa =>
    have hu := h.parts hs
    have armed := hu.mem.arm pa
    exact { mem := { armed with }, key := { hu.key with }, reg := { hu.reg with } }

theorem State.Parts.tick {s : State} (h : s.Parts) : s.tick.Parts where
  mem := h.mem.congr s.tick_cfg (by simp [State.tick]) s.tick_monitor
  key := h.key.congr s.tick_cfg (by simp [State.tick]) (by simp [State.tick])
  reg := h.reg.congr s.tick_cfg (by simp [State.tick]) (by simp [State.tick]) (by simp [State.tick])
    (by simp [State.tick]) (by simp [State.tick])

theorem runInstruction_parts {s t : State} (h : runInstruction s = .next t) (hs : s.Parts) : t.Parts := by
  obtain ⟨-, hexit | ⟨i, len, -, hexec⟩⟩ := runInstruction_next h
  · exact hexit.controlOnly.parts hs.tick
  · exact (exec_effect hexec).parts ((s.tick.begin_controlOnly len).parts hs.tick)

/-! ### Bits of a register -/

/-- No bit outside a mask, bit by bit. -/
theorem and_not_eq_zero_iff {w : Nat} (v m : BitVec w) :
    v &&& ~~~m = 0#w ↔ ∀ i, v.getLsbD i = true → m.getLsbD i = true := by
  constructor
  · intro h i hv
    have hi : i < w := BitVec.lt_of_getLsbD hv
    have e := congrArg (fun x => x.getLsbD i) h
    simpa [hv, hi] using e
  · intro h
    refine BitVec.eq_of_getLsbD_eq fun i hi => ?_
    cases hv : v.getLsbD i with
    | false => simp [hv]
    | true => simp [h i hv]

theorem and_and_not (v w : Word64) : v &&& w &&& ~~~w = 0#64 := by
  rw [BitVec.and_assoc]
  simp

/-- A value without bits of its own stays within the mask. -/
theorem within_of_sub {v v' m : Word64} (h : v &&& ~~~m = 0#64) (hs : ∀ i, v'.getLsbD i = true → v.getLsbD i = true) :
    v' &&& ~~~m = 0#64 :=
  (and_not_eq_zero_iff _ _).mpr fun i hi => (and_not_eq_zero_iff _ _).mp h i (hs i hi)

theorem getLsbD_clearBit (v : Word64) (n i : Nat) :
    (clearBit v n).getLsbD i = (v.getLsbD i && decide (i < 64 ∧ i ≠ n)) := by
  by_cases hi : i < 64
  · by_cases hn : i = n
    · subst hn; simp [clearBit, hi]
    · simp [clearBit, hi, hn]; omega
  · simp [BitVec.getLsbD_of_ge _ _ (Nat.le_of_not_lt hi)]

/-- The bits of a register with one bit replaced. -/
theorem getLsbD_setBit (v : Word64) {n : Nat} (hn : n < 64) (b : Bool) (i : Nat) :
    (setBit v n b).getLsbD i = if i = n then b else v.getLsbD i := by
  by_cases hi : i < 64
  · have one : (1#64 <<< n).getLsbD i = decide (i = n) := by
      rw [← BitVec.twoPow_eq, BitVec.getLsbD_twoPow]
      simp [hn, eq_comm]
    cases b with
    | false =>
      rw [setBit, if_neg Bool.false_ne_true, getLsbD_clearBit]
      by_cases h : i = n <;> simp [hi, h]
    | true =>
      rw [setBit, if_pos rfl, BitVec.getLsbD_or, one]
      by_cases h : i = n <;> simp [h]
  · have hne : i ≠ n := by omega
    simp [BitVec.getLsbD_of_ge _ _ (Nat.le_of_not_lt hi), hne]

/-! ### The feedback agent -/

/-- With the interface every bit of IA32_PACKAGE_THERM_STATUS may be set (R52, R577). -/
theorem msrWritable_status {s : State} (h : s.cfg.features.hfi = true) :
    msrWritable s .packageThermStatus = BitVec.allOnes 64 := by simp [msrWritable, h]

/-- An update that lands, or is acknowledged, leaves none in progress. -/
theorem State.RegInv.landed {s : State} (h : s.RegInv) (hf : s.cfg.features.hfi = true) (v : Word64) (x : Hfi)
    (hx : x.inFlight = []) : ({ s with msr := { s.msr with packageThermStatus := v }, hfi := x } : State).RegInv :=
  { h with
    msr := { h.msr with
      packageThermStatus := by
        show v &&& ~~~(msrWritable s .packageThermStatus) = 0#64
        rw [msrWritable_status hf]
        simp }
    noUpdate := fun _ => hx }

theorem features_of_hfiTargets {s : State} {b : Nat} {bs : List Nat} (h : hfiTargets s = b :: bs) :
    s.cfg.features.hfi = true := by
  unfold hfiTargets at h
  split at h
  · rename_i hc
    rw [Bool.and_eq_true] at hc
    exact hc.1
  · cases h

/-- The state after an update: its bytes stored, the status bit and its consequences written (52 R580). -/
theorem State.Parts.updated {s : State} (h : s.Parts) (hf : s.cfg.features.hfi = true) (cells : List (Nat × Byte))
    (v : Word64) (x : Hfi) (hx : x.inFlight = []) :
    ({ s.storeByAgent cells with
        msr := { (s.storeByAgent cells).msr with packageThermStatus := v }, hfi := x } : State).Parts :=
  have stored := h.storeByAgent cells
  { mem := { stored.mem with }, key := { stored.key with }
    reg := stored.reg.landed ((s.storeByAgent_cfg cells).symm ▸ hf) v x hx }

theorem hfiUpdate_parts {s : State} (h : s.Parts) (target : Nat) (rows : List HfiRow) (ts : Word64) (cp ce : Bool) :
    (hfiUpdate s target rows ts cp ce).Parts := by
  unfold hfiUpdate
  split
  · exact h
  · rename_i ht
    dsimp only
    split
    · exact h.updated (features_of_hfiTargets ht) _ _ _ rfl
    · exact h

theorem hfiAcknowledge_parts {s : State} (h : s.Parts) : (hfiAcknowledge s).Parts := by
  unfold hfiAcknowledge
  split
  · rename_i hc
    rw [Bool.and_eq_true] at hc
    exact { mem := { h.mem with }, key := { h.key with }, reg := h.reg.landed hc.2 _ _ rfl }
  · exact h

/-- Where an update may be in progress the status bit is 0 (R576, R580). -/
theorem State.Parts.inFlight {s : State} (h : s.Parts) (hst : bit s.msr.packageThermStatus hfiStatusBit = false)
    (l : List Nat) : ({ s with hfi := { s.hfi with inFlight := l } } : State).Parts where
  mem := { h.mem with }
  key := { h.key with }
  reg := { h.reg with noUpdate := fun hb => by rw [hst] at hb; cases hb }

theorem State.Parts.hfiBegun {s : State} (h : s.Parts) : s.hfiBegun.Parts := by
  unfold State.hfiBegun
  split
  · rename_i hr
    simp only [hfiReady, Bool.and_eq_true, Bool.not_eq_true'] at hr
    exact h.inFlight hr.2 _
  · exact h

theorem State.Parts.setHfiConfig {s : State} (h : s.Parts) {v : Word64}
    (hv : v &&& ~~~(msrWritable s .hwFeedbackConfig) = 0#64) (acks : Bool) : (s.setHfiConfig v acks).Parts := by
  have written {t : State} (k : t.Parts) (hc : t.cfg = s.cfg) (d : Nat) (x : Hfi) (hx : x.inFlight = t.hfi.inFlight) :
      ({ t with msr := { t.msr with hwFeedbackConfig := v }, hfi := x, draws := d } : State).Parts :=
    { mem := { k.mem with }, key := { k.key with }
      reg := { k.reg with
        msr := { k.reg.msr with hwFeedbackConfig := by rw [← msrWritable_congr hc] at hv; exact hv }
        noUpdate := fun hb => hx.trans (k.reg.noUpdate hb) } }
  unfold State.setHfiConfig
  dsimp only
  split
  · exact written h.hfiBegun s.hfiBegun_cfg _ _ rfl
  · exact written h rfl _ _ rfl

theorem State.Parts.setHfiPtr {s : State} (h : s.Parts) {v : Word64}
    (hv : v &&& ~~~(msrWritable s .hwFeedbackPtr) = 0#64) : (s.setHfiPtr v).Parts := by
  have k := h.hfiBegun
  have pointed : ({ s.hfiBegun with msr := { s.hfiBegun.msr with hwFeedbackPtr := v } } : State).Parts :=
    { mem := { k.mem with }, key := { k.key with }
      reg := { k.reg with
        msr := { k.reg.msr with hwFeedbackPtr := by rw [← msrWritable_congr s.hfiBegun_cfg] at hv; exact hv } } }
  unfold State.setHfiPtr
  dsimp only
  split
  · rename_i hc
    refine pointed.inFlight ?_ _
    refine Bool.eq_false_iff.mpr fun hb => ?_
    rw [k.reg.noUpdate hb] at hc
    cases hc
  · exact pointed

theorem senter_parts {s : State} (h : s.Parts) : (senter s).Parts := by
  have drawn : s.drawn.Parts := (AfterChecks.drawn s).parts h
  refine drawn.setHfiConfig (within_of_sub h.reg.msr.hwFeedbackConfig fun i hi => ?_) _
  rw [getLsbD_clearBit, Bool.and_eq_true] at hi
  exact hi.1

/-! ### WRMSR -/

/-- A legal value sets no bit that is reserved or whose register is absent (R47). -/
theorem msrLegal_within {s : State} {m : MsrName} {v : Word64} (h : msrLegal s m v = true) :
    v &&& ~~~(msrWritable s m) = 0#64 := by
  simp only [msrLegal, Bool.and_eq_true, decide_eq_true_eq] at h
  exact h.1.2

/-- A 32-bit register takes the low half of a legal value. -/
theorem within_low {v m : Word64} (h : v &&& ~~~m = 0#64) : (v.setWidth 32).setWidth 64 &&& ~~~m = 0#64 := by
  refine within_of_sub h fun i hi => ?_
  simp only [BitVec.getLsbD_setWidth, Bool.and_eq_true] at hi
  exact hi.2.2

/-- A write of a register whose bits nothing reserves. -/
theorem State.Parts.msrWritten {s : State} (h : s.Parts) {r : Msrs} (hr : r.Within (msrWritable s))
    (hst : bit r.packageThermStatus hfiStatusBit = true → bit s.msr.packageThermStatus hfiStatusBit = true) :
    ({ s with msr := r } : State).Parts where
  mem := { h.mem with }
  key := { h.key with }
  reg := { h.reg with msr := hr, noUpdate := fun hb => h.reg.noUpdate (hst hb) }

theorem setMsr_parts {s : State} (h : s.Parts) {m : MsrName} {v : Word64} (hl : msrLegal s m v = true) :
    (setMsr s m v).Parts := by
  have hv := msrLegal_within hl
  have hr := h.reg.msr
  cases m with
  | umwaitControl => exact h.msrWritten { hr with umwaitControl := within_low hv } id
  | testCtl => exact h.msrWritten { hr with testCtl := within_low hv } id
  | hwFeedbackPtr => exact h.setHfiPtr hv
  | hwFeedbackConfig => exact h.setHfiConfig hv _
  | packageThermStatus =>
    have place : hfiStatusBit < 64 := by decide
    refine h.msrWritten { hr with packageThermStatus := within_of_sub hv fun i hi => ?_ } fun hb => ?_
    · rw [getLsbD_setBit _ place] at hi
      split at hi
      · rename_i e
        rw [Bool.and_eq_true] at hi
        exact e ▸ hi.1
      · exact hi
    · rw [bit, getLsbD_setBit _ place, if_pos rfl, Bool.and_eq_true] at hb
      exact hb.2
  | packageThermInterrupt => exact h.msrWritten { hr with packageThermInterrupt := hv } id
  | xss => exact h.msrWritten { hr with xss := hv } id
  | rtitCtl => exact (s.setRtit_controlOnly v).parts h
  | _ => exact h.msrWritten { hr with } id

/-! ### The key table -/

theorem setTme_parts {s : State} (h : s.Parts) (lock enable : Bool) (keyidBits : Nat) (algs : BitVec 16) (maxKeys : Nat) :
    (setTme s lock enable keyidBits algs maxKeys).Parts := by
  unfold setTme
  dsimp only
  split
  · exact h.msrWritten { h.reg.msr with } id
  · refine { mem := { h.mem with }, key := { h.key with wf := ?_ }, reg := { h.reg with msr := { h.reg.msr with } } }
    dsimp only
    split
    · exact ⟨.nil, by simp⟩
    · exact h.key.wf

theorem keyProgramByOther_parts {s : State} (h : s.Parts) (id : Nat) (k : KeySlot) : (keyProgramByOther s id k).Parts := by
  have hw : KeyTable.wf (keyProgramByOther s id k).keyTable := keyProgramByOther_wf h.key.wf
  obtain ⟨t, e, -⟩ := keyProgramByOther_spec s id k
  rw [e] at hw ⊢
  exact { mem := { h.mem with }, key := { h.key with wf := hw }, reg := { h.reg with } }

/-! ### RESET# and INIT# -/

theorem setKeySlot_foldl_wf (es : List (Nat × KeySlot)) (t : List (Nat × KeySlot)) (ht : KeyTable.wf t)
    (h : ∀ e ∈ es, 0 < e.1 ∧ e.1 < 65536) : KeyTable.wf (es.foldl (fun t e => setKeySlot t e.1 e.2) t) := by
  induction es generalizing t with
  | nil => exact ht
  | cons e es ih =>
    obtain ⟨hpos, hlt⟩ := h e (.head _)
    exact ih _ (setKeySlot_wf t e.1 e.2 ht hpos hlt) fun x hx => h x (.tail _ hx)

/-- Registers with the bits held 0 that are reserved (93_implementation_defined.md U30). -/
theorem Msrs.held_within (u : Msrs) (s : State) : (u.held s).Within (msrWritable s) where
  umwaitControl := by
    refine (and_not_eq_zero_iff _ _).mpr fun i hi => ?_
    simp only [Msrs.held, BitVec.getLsbD_setWidth, BitVec.getLsbD_and, Bool.and_eq_true] at hi
    exact hi.2.2.2
  testCtl := by
    refine (and_not_eq_zero_iff _ _).mpr fun i hi => ?_
    simp only [Msrs.held, BitVec.getLsbD_setWidth, BitVec.getLsbD_and, Bool.and_eq_true] at hi
    exact hi.2.2.2
  hwFeedbackPtr := and_and_not _ _
  hwFeedbackConfig := and_and_not _ _
  packageThermStatus := and_and_not _ _
  packageThermInterrupt := and_and_not _ _
  xss := and_and_not _ _

theorem State.scrambled_parts (s : State) : s.scrambled.Parts where
  mem :=
    { wf := memSetMany_wf _ _ ⟨.nil, by simp⟩
      inside := memSetMany_inside _ _ _ (by simp) fun c hc => ((mem_cellsInside _ _ c).mp hc).2
      aligned := fun b hb => by
        obtain ⟨x, -, rfl⟩ := Option.map_eq_some_iff.mp hb
        exact monitorBlock_aligned s.cfg x }
  key :=
    { wf := setKeySlot_foldl_wf _ _ ⟨.nil, by simp⟩ fun e he => by simpa using (List.mem_filter.mp he).2
      lock := fun h => if_pos h }
  reg :=
    { flags := fixedFlags_fixedFlags _
      msr := Msrs.held_within _ s
      xcr0 := and_and_not _ _
      noUpdate := fun h => if_pos h }

theorem State.Parts.powerUp {s : State} (h : s.Parts) : s.powerUp.Parts where
  mem := { h.mem with aligned := fun b hb => by cases hb }
  key := ⟨⟨.nil, by simp [State.powerUp]⟩, fun _ => rfl⟩
  reg :=
    { h.reg with
      msr := { h.reg.msr with hwFeedbackPtr := BitVec.zero_and, hwFeedbackConfig := BitVec.zero_and }
      noUpdate := fun _ => rfl }

theorem resetEvent_parts (s : State) : (resetEvent s).Parts := s.scrambled_parts.powerUp

theorem initEvent_parts {s : State} (h : s.Parts) : (initEvent s).Parts :=
  s.scrambled_parts.msrWritten
    { s.scrambled_parts.reg.msr with
      hwFeedbackPtr := h.reg.msr.hwFeedbackPtr, hwFeedbackConfig := h.reg.msr.hwFeedbackConfig } id

/-! ### Every step -/

theorem InputEffect.parts {i : Input} {s t : State} (h : InputEffect s i t) (hs : s.Parts) : t.Parts := by
  cases h with
  | control h => exact h.parts hs
  | store cells => exact hs.storeByAgent cells
  | hfiUpdate => exact hfiUpdate_parts hs ..
  | hfiAcknowledge => exact hfiAcknowledge_parts hs
  | senter => exact senter_parts hs
  | wrmsr hl => exact (State.softwareRan_controlOnly _).parts (setMsr_parts hs hl)
  | setTme => exact (State.softwareRan_controlOnly _).parts (setTme_parts hs ..)
  | reset => exact resetEvent_parts s
  | init => exact initEvent_parts hs
  | setSys => exact { mem := { hs.mem with }, key := { hs.key with }, reg := { hs.reg with xcr0 := and_and_not _ _ } }
  | entryFailControl =>
    exact
      { mem := { hs.mem with }, key := { hs.key with }
        reg := { hs.reg with flags := fixedFlags_vmFailFlags hs.reg.flags _ } }
  | lockedStore hu hp =>
    exact (State.softwareRan_controlOnly _).parts ((hu.parts hs).storeOwn (hu.cfg ▸ hp) _)
  | keyProgram => exact keyProgramByOther_parts hs ..
  | keyLock =>
    exact
      { mem := { hs.mem with }, reg := { hs.reg with }
        key := { hs.key with lock := fun h => (if_pos h).trans (hs.key.lock h) } }

/-- Settles O7: a step runs an instruction or takes an input, and each keeps the three parts of the invariant. -/
theorem invariantKept : Obligations.InvariantKept := by
  intro s t hs hstep
  rw [State.inv_iff_parts] at hs ⊢
  cases step_next hstep with
  | instruction _ h =>
    exact runInstruction_parts h { mem := { hs.mem with }, key := { hs.key with }, reg := { hs.reg with } }
  | @storeMeanwhile pa bytes rest u _ h =>
    have waiting : ({ s with inputs := rest } : State).Parts :=
      { mem := { hs.mem with }, key := { hs.key with }, reg := { hs.reg with } }
    exact (runInstruction_parts h (waiting.storeEarly pa bytes)).storeByAgent _
  | input _ _ _ h =>
    have ticked := hs.tick
    exact (applyInput_effect h).parts { mem := { ticked.mem with }, key := { ticked.key with }, reg := { ticked.reg with } }

end Sys2Proof.Machine
end

section
/-! A step runs what its decoder reads at RIP (10_state.md R34, R35; 20_memory.md R108), and the key-table writes of PCONFIG
(44_pconfig.md R367). -/

namespace Sys2Proof.Machine

/-! ### Fetching, then running -/

/-- What the bytes at RIP decode to is run. -/
theorem runInstruction_of_decode {s : State} {i : Instr} {len : Nat} (hh : s.vmx.handedOver = false)
    (hd : decode s.tick.decodeMode (fetchBytes s.tick).1 = .instr i len) :
    runInstruction s = exec i (s.tick.begin len) := by
  have fetched : fetchDecode s.tick = .ok (i, len) := by simp only [fetchDecode, hd]
  simp [runInstruction, hh, fetched]

/-- Fetching changes what checks may, and then the next instruction's address is known. -/
theorem State.begin_spec (s : State) (len : Nat) : ∃ u, AfterChecks s u ∧
    s.begin len = { u with nextRip := ripPlus s len, vmx := { u.vmx with justEntered := false } } :=
  ⟨_, s.fetched_spec.trans (touchCode_spec s.fetched len), rfl⟩

theorem State.tick_rip (s : State) : s.tick.rip = s.rip := by simp [State.tick]
theorem State.tick_gpr (s : State) : s.tick.gpr = s.gpr := by simp [State.tick]
theorem State.tick_zmm (s : State) : s.tick.zmm = s.zmm := by simp [State.tick]
theorem State.tick_k (s : State) : s.tick.k = s.k := by simp [State.tick]
theorem State.tick_rflags (s : State) : s.tick.rflags = s.rflags := by simp [State.tick]
theorem State.tick_mem (s : State) : s.tick.mem = s.mem := by simp [State.tick]

/-- The state an instruction starts in: registers, flags and memory are those of the state before the step (R35). -/
theorem State.tick_begin_same (s : State) (len : Nat) : (s.tick.begin len).rip = s.rip ∧
    SameGprs s (s.tick.begin len) ∧ SameVecs s (s.tick.begin len) ∧ SameMasks s (s.tick.begin len) ∧
      (s.tick.begin len).rflags = s.rflags ∧ SameMemory s (s.tick.begin len) := by
  obtain ⟨u, hu, e⟩ := s.tick.begin_spec len
  rw [e]
  refine ⟨hu.rip.trans s.tick_rip, State.gpr64_congr (hu.gpr.trans s.tick_gpr), fun r => ?_,
    sameMasks_of_k (hu.k.trans s.tick_k), hu.rflags.trans s.tick_rflags, fun a => ?_⟩
  · exact (hu.vec r).trans (by simp only [State.vec, s.tick_cfg, s.tick_zmm])
  · exact (hu.byte a).trans (by simp only [State.byte, s.tick_mem])

/-- Under a store of another agent memory beside the store is as before (R108). -/
theorem State.storeEarly_byte_other (s : State) {pa a : Nat} (bytes : List Byte) (ha : a < pa ∨ pa + bytes.length ≤ a) :
    (s.storeEarly pa bytes).byte a = s.byte a := by
  simp only [State.byte, State.storeEarly, (s.storeByAgent_spec _).1]
  refine memByte_memSetMany_other _ _ _ fun hm => ?_
  obtain ⟨x, hx, rfl⟩ := List.mem_map.mp hm
  obtain ⟨i, hi, -, rfl⟩ := (mem_landing ..).mp ((mem_cellsInside _ _ x).mp hx).1
  dsimp only at ha
  omega

/-- Settles O3. -/
theorem stepRunsDecoded : Obligations.StepRunsDecoded := by
  constructor
  · intro s i len hh hd
    refine ⟨fun hin => ?_, runInstruction_of_decode hh hd, rfl, s.tick_begin_same len⟩
    simpa only [step, hin] using runInstruction_of_decode hh hd
  · intro s i len pa bytes hh hin u hd
    have run : runInstruction u = exec i (u.tick.begin len) :=
      runInstruction_of_decode (by simpa [u] using hh) hd
    refine ⟨congrArg (landAfter _) run, fun k hk => ?_, fun a ha => s.storeEarly_byte_other bytes ha,
      State.gpr64_congr (s.storeEarly_gpr pa bytes), s.storeEarly_rip pa bytes⟩
    rw [s.storeEarly_byte pa bytes hin k hk]
    cases hb : Config.drawBool (s.draws + k) with
    | true => exact .inl rfl
    | false => exact .inr ⟨rfl, (mem_landing ..).mpr ⟨k, hk, hb, rfl⟩⟩

/-! ### The commands of PCONFIG -/

/-- PCONFIG past all its checks (R365). -/
theorem execPconfig_next {p : Pfx} {s u : State} {bs : List Byte} (hl : pconfigLegal p s = true)
    (he : pconfigExits s = false) (hr : pconfigReady s = true) (ha : (pconfigBase s).toNat % 256 = 0)
    (hm : readMem s Access.load .ds (pconfigBase s) 192 = .ok (bs, u)) (hz : structReservedClear bs = true) :
    execPconfig p s = .next (pconfigKeyProgram u bs) := by
  have aligned : (pconfigBase s).setWidth 8 = 0#8 := BitVec.eq_of_toNat_eq (by simpa using ha)
  simp only [execPconfig, hl, he, hr, aligned, hm, hz, check_true, ok_bind]
  rfl

/-- Where the tests pass and one processor finds the lock open, the command is carried out (R366, R367). -/
theorem pconfigKeyProgram_eq_program {s : State} {bs : List Byte} (hr : pconfigRefusal s bs = none)
    (hl : s.keyTableLock = .unlocked) (hp : s.cfg.logicalProcessors ≤ 1) :
    pconfigKeyProgram s bs = pconfigProgram s bs := by
  simp [pconfigKeyProgram, hr, acquireKeyTable, hl, hp]

theorem pconfigRefusal_congr {s u : State} (h : u.msr = s.msr) (bs : List Byte) :
    pconfigRefusal u bs = pconfigRefusal s bs := by simp only [pconfigRefusal, h]

/-- The status is in EAX in every mode (R361). -/
theorem pconfigEnd_gpr32_rax (s : State) (st : PconfigStatus) :
    (pconfigEnd s st).gpr32 rax = BitVec.ofNat 32 st.code := by
  have low (x : Word32) : (x ++ BitVec.ofNat 32 st.code).setWidth 32 = BitVec.ofNat 32 st.code := by
    rw [BitVec.setWidth_append]; simp
  unfold pconfigEnd State.setGpr32
  cases hm : s.is64 with
  | true => simp [State.gpr32]
  | false => simp [State.gpr32, low]

@[simp] theorem pconfigEnd_keyTable (s : State) (st : PconfigStatus) : (pconfigEnd s st).keyTable = s.keyTable := by
  obtain ⟨v, h⟩ := pconfigEnd_eq s st
  rw [h]
  rfl

/-- A command that writes an entry succeeds and the entry reads so. -/
theorem pconfigEnd_setKey (s : State) (id : Nat) (k : KeySlot) :
    (pconfigEnd (s.setKey id k) .success).gpr32 rax = 0#32 ∧
      keySlot (pconfigEnd (s.setKey id k) .success).keyTable id = k :=
  ⟨pconfigEnd_gpr32_rax _ _, by rw [pconfigEnd_keyTable, State.setKey_keyTable, keySlot_setKeySlot, if_pos rfl]⟩

/-- Settles O49: the four commands, one by one. -/
theorem pconfigCommands : Obligations.PconfigCommands := by
  intro p s u bs hl he hr ha hm hz href hlock hproc old
  have hu : AfterChecks s u := (readMem_spec hm).1
  have run : exec (.pconfig p) s = .next (pconfigProgram u bs) := by
    rw [show exec (.pconfig p) s = execPconfig p s from rfl, execPconfig_next hl he hr ha hm hz,
      pconfigKeyProgram_eq_program ((pconfigRefusal_congr hu.msr bs).trans href) (hu.keyTableLock.trans hlock)
        (hu.cfg ▸ hproc)]
  refine ⟨_, run, fun hc => ?_, fun hc => ?_, fun hc => ?_, fun hc => ?_⟩
  · simp only [pconfigProgram, hc]
    exact pconfigEnd_setKey ..
  · have first : u.entropy = Config.drawEntropy u.draws := rfl
    have second : u.drawn.entropy = Config.drawEntropy (u.draws + 1) := rfl
    simp only [pconfigProgram, hc, first, second]
    cases Config.drawEntropy u.draws with
    | none => exact ⟨pconfigEnd_gpr32_rax _ _, (pconfigEnd_keyTable ..).trans hu.keyTable⟩
    | some r1 =>
      cases Config.drawEntropy (u.draws + 1) with
      | none => exact ⟨pconfigEnd_gpr32_rax _ _, (pconfigEnd_keyTable ..).trans hu.keyTable⟩
      | some r2 => exact pconfigEnd_setKey ..
  · simp only [pconfigProgram, hc]
    exact pconfigEnd_setKey ..
  · simp only [pconfigProgram, hc, hu.keyTable]
    exact pconfigEnd_setKey ..

end Sys2Proof.Machine
end

section
/-! The decoder reads back what the encoder writes (30_encoding.md R164 to R174, R190): first the parts of an encoding. -/

namespace Sys2Proof

/-! ### Legacy prefixes -/

/-- The legacy prefix bytes (R164). -/
def prefixBytes : List Byte :=
  [0xF0#8, 0xF2#8, 0xF3#8, 0x66#8, 0x67#8, 0x26#8, 0x2E#8, 0x36#8, 0x3E#8, 0x64#8, 0x65#8]

theorem Prefixes.add_eq_none {b : Byte} (hb : b ∉ prefixBytes) (p : Prefixes) : p.add b = Option.none := by
  simp only [prefixBytes, List.mem_cons, List.not_mem_nil, or_false, not_or] at hb
  simp only [Prefixes.add, hb, if_false]

theorem takePrefixes_stop {b : Byte} (hb : b ∉ prefixBytes) (p : Prefixes) (bs : List Byte) :
    takePrefixes p (b :: bs) = (p, b :: bs) := by simp only [takePrefixes, Prefixes.add_eq_none hb]

section
variable (q : Prefixes) (c : Bool) (bs : List Byte)

theorem takePrefixes_lock :
    takePrefixes q (byteIf c 0xF0#8 ++ bs) = takePrefixes { q with lock := q.lock || c } bs := by
  cases c <;> simp [byteIf, takePrefixes, Prefixes.add]

theorem takePrefixes_a67 :
    takePrefixes q (byteIf c 0x67#8 ++ bs) = takePrefixes { q with a67 := q.a67 || c } bs := by
  cases c <;> simp [byteIf, takePrefixes, Prefixes.add]

theorem takePrefixes_p66 :
    takePrefixes q (byteIf c 0x66#8 ++ bs) = takePrefixes { q with p66 := q.p66 || c } bs := by
  cases c <;> simp [byteIf, takePrefixes, Prefixes.add]

theorem takePrefixes_f3 :
    takePrefixes q (byteIf c 0xF3#8 ++ bs) = takePrefixes { q with f3 := q.f3 || c } bs := by
  cases c <;> simp [byteIf, takePrefixes, Prefixes.add]

theorem takePrefixes_f2 :
    takePrefixes q (byteIf c 0xF2#8 ++ bs) = takePrefixes { q with f2 := q.f2 || c } bs := by
  cases c <;> simp [byteIf, takePrefixes, Prefixes.add]

theorem takePrefixes_seg (o : Option Seg) :
    takePrefixes q (segBytes o ++ bs) = takePrefixes { q with seg := o.or q.seg } bs := by
  cases o with
  | none => rfl
  | some s => cases s <;> simp [segBytes, Seg.byte, takePrefixes, Prefixes.add]

end

/-- The prefixes are read as they were written, up to the first byte that is none. -/
theorem takePrefixes_bytes (p : Prefixes) {b : Byte} (hb : b ∉ prefixBytes) (bs : List Byte) :
    takePrefixes Prefixes.none (p.bytes ++ b :: bs) = (p, b :: bs) := by
  simp only [Prefixes.bytes, List.append_assoc, takePrefixes_lock, takePrefixes_a67, takePrefixes_seg, takePrefixes_p66,
    takePrefixes_f3, takePrefixes_f2, takePrefixes_stop hb]
  simp [Prefixes.none]

/-! ### Numbers as bytes -/

theorem takeBytes_append (f bs : List Byte) : takeBytes f.length (f ++ bs) = some (f, bs) := by
  induction f with
  | nil => rfl
  | cons b f ih => simp only [List.length_cons, List.cons_append, takeBytes, ih]

@[simp] theorem valueBytes_length (n v : Nat) : (valueBytes n v).length = n := by
  induction n generalizing v with
  | zero => rfl
  | succ n ih => simp only [valueBytes, List.length_cons, ih]

theorem bytesValue_valueBytes (n v : Nat) : bytesValue (valueBytes n v) = v % 256 ^ n := by
  induction n generalizing v with
  | zero => simp [valueBytes, bytesValue, Nat.mod_one]
  | succ n ih =>
    rw [valueBytes, bytesValue, ih, BitVec.toNat_ofNat, Nat.pow_succ' (n := n), Nat.mod_mul]

theorem takeBytes_valueBytes (n v : Nat) (bs : List Byte) :
    takeBytes n (valueBytes n v ++ bs) = some (valueBytes n v, bs) := by
  have h := takeBytes_append (valueBytes n v) bs
  rwa [valueBytes_length] at h

theorem ofNat_bytesValue16 (v : BitVec 16) : BitVec.ofNat 16 (bytesValue (valueBytes 2 v.toNat)) = v := by
  have := v.isLt
  rw [bytesValue_valueBytes, Nat.mod_eq_of_lt (by omega), BitVec.ofNat_toNat, BitVec.setWidth_eq]

theorem ofNat_bytesValue32 (v : BitVec 32) : BitVec.ofNat 32 (bytesValue (valueBytes 4 v.toNat)) = v := by
  have := v.isLt
  rw [bytesValue_valueBytes, Nat.mod_eq_of_lt (by omega), BitVec.ofNat_toNat, BitVec.setWidth_eq]

/-! ### Displacements -/

theorem takeD8_bytes (v : BitVec 8) (bs : List Byte) : takeD8 ((Disp.d8 v).bytes ++ bs) = some (.d8 v, bs) := by
  simp [takeD8, Disp.bytes, takeBytes, bytesValue]

theorem takeD16_bytes (v : BitVec 16) (bs : List Byte) : takeD16 ((Disp.d16 v).bytes ++ bs) = some (.d16 v, bs) := by
  simp only [takeD16, Disp.bytes, takeBytes_valueBytes, Option.map_some, ofNat_bytesValue16]

theorem takeD32_bytes (v : BitVec 32) (bs : List Byte) : takeD32 ((Disp.d32 v).bytes ++ bs) = some (.d32 v, bs) := by
  simp only [takeD32, Disp.bytes, takeBytes_valueBytes, Option.map_some, ofNat_bytesValue32]

theorem takeDisp_ok32 {d : Disp} {base : GReg} (h : d.ok32 base = true) (bs : List Byte) :
    takeDisp d.mod takeD32 (d.bytes ++ bs) = some (d, bs) := by
  cases d with
  | none => rfl
  | d8 v => exact takeD8_bytes v bs
  | d16 v => cases h
  | d32 v => exact takeD32_bytes v bs

theorem takeDisp_ok16 {d : Disp} {rm : BitVec 3} (h : d.ok16 rm = true) (bs : List Byte) :
    takeDisp d.mod takeD16 (d.bytes ++ bs) = some (d, bs) := by
  cases d with
  | none => rfl
  | d8 v => exact takeD8_bytes v bs
  | d16 v => exact takeD16_bytes v bs
  | d32 v => cases h

/-! ### Register numbers -/

theorem reg4_low3 (r : GReg) : reg4 (r.getLsbD 3) (low3 r) = r := by
  revert r; decide

theorem reg5_low3 (r : VReg) : reg5 (r.getLsbD 4) (r.getLsbD 3) (r.extractLsb' 0 3) = r := by
  revert r; decide

theorem low3_eq_iff (r : GReg) (k : BitVec 3) : low3 r = k ↔ r &&& 7#4 = 0#1 ++ k := by
  revert r k; decide

/-- Bits of a byte joined from fields. -/
theorem fields233 (a : BitVec 2) (b c : BitVec 3) : (a ++ (b ++ c) : Byte).extractLsb' 6 2 = a ∧
    (a ++ (b ++ c) : Byte).extractLsb' 3 3 = b ∧ (a ++ (b ++ c) : Byte).extractLsb' 0 3 = c := by
  revert a b c; decide

/-! ### Memory operands -/

theorem addrSize_eq_a16 (m : DecodeMode) (p : Pfx) : addrSize m p.addr67 = .a16 ↔ wide16 m p = true := by
  unfold addrSize wide16
  cases m.is64 with
  | true => cases p.addr67 <;> simp
  | false => simp

/-- `mod = 00` with a base of low bits 101 is another form (R166). -/
theorem Disp.ok32_mod {d : Disp} {r : GReg} (h : d.ok32 r = true) : ¬(d.mod = 0#2 ∧ low3 r = 5#3) := by
  rintro ⟨hm, hr⟩
  cases d with
  | none => simp [Disp.ok32, (low3_eq_iff r _).mp hr] at h
  | d8 v => cases hm
  | d16 v => cases h
  | d32 v => cases hm

theorem Disp.ok16_mod {d : Disp} {rm : BitVec 3} (h : d.ok16 rm = true) : ¬(d.mod = 0#2 ∧ rm = 6#3) := by
  rintro ⟨hm, rfl⟩
  cases d with
  | none => cases h
  | d8 v => cases hm
  | d16 v => cases hm
  | d32 v => cases h

/-- A memory operand the mode can express is read as it was written. -/
theorem takeMem_fields {m : DecodeMode} {p : Pfx} {o : Mem} (h : o.ok m p = true) (bs : List Byte) :
    takeMem (addrSize m p.addr67) o.fields.mod o.fields.rm o.fields.x o.fields.b (o.fields.tail ++ bs) = some (o, bs) := by
  have narrow (hw : wide16 m p = false) : ¬ addrSize m p.addr67 = .a16 := by
    rw [addrSize_eq_a16, hw]; exact Bool.false_ne_true
  cases o with
  | base r d =>
    simp only [Mem.ok, Bool.and_eq_true, Bool.not_eq_true', bne_iff_ne] at h
    obtain ⟨⟨⟨hw, h4⟩, hd⟩, -⟩ := h
    have hr : ¬ low3 r = 4#3 := fun e => h4 ((low3_eq_iff r _).mp e)
    simp only [Mem.fields, takeMem, if_neg (narrow hw), if_neg hr, if_neg (Disp.ok32_mod hd), takeDisp_ok32 hd, Option.map_some,
      reg4_low3]
  | ripRel d =>
    simp only [Mem.ok, Bool.not_eq_true'] at h
    simp [Mem.fields, takeMem, narrow h, takeBytes_valueBytes, ofNat_bytesValue32]
  | sib base i s d =>
    cases base with
    | some r =>
      simp only [Mem.ok, Bool.and_eq_true, Bool.not_eq_true'] at h
      obtain ⟨⟨⟨hw, hd⟩, -⟩, -⟩ := h
      obtain ⟨hs, hi, hr⟩ := fields233 s (low3 i) (low3 r)
      simp only [Mem.fields, takeMem, if_neg (narrow hw), if_true, List.cons_append, hs, hi, hr, if_neg (Disp.ok32_mod hd),
        takeDisp_ok32 hd, Option.map_some, reg4_low3]
    | none =>
      simp only [Mem.ok, Bool.and_eq_true, Bool.not_eq_true'] at h
      obtain ⟨⟨hw, hd⟩, -⟩ := h
      obtain ⟨hs, hi, hr⟩ := fields233 s (low3 i) 5#3
      cases d with
      | d32 v =>
        simp only [Mem.fields, takeMem, if_neg (narrow hw), if_true, List.cons_append, hs, hi, hr, and_self,
          takeD32_bytes, Option.map_some, reg4_low3]
      | none | d8 | d16 => cases hd
  | a16 rm d =>
    simp only [Mem.ok, Bool.and_eq_true] at h
    obtain ⟨hw, hd⟩ := h
    simp only [Mem.fields, takeMem, (addrSize_eq_a16 m p).mpr hw, if_true, if_neg (Disp.ok16_mod hd), takeDisp_ok16 hd,
      Option.map_some]
  | disp16 d =>
    simp only [Mem.fields, takeMem, (addrSize_eq_a16 m p).mpr h, if_true, and_self, takeBytes_valueBytes, Option.map_some,
      ofNat_bytesValue16]

theorem Disp.mod_ne_three (d : Disp) : d.mod ≠ 3#2 := by cases d <;> simp [Disp.mod]

/-- `mod = 11` is a register (R166). -/
theorem Mem.fields_mod (o : Mem) : o.fields.mod ≠ 3#2 := by
  cases o with
  | base r d => exact d.mod_ne_three
  | ripRel => simp [Mem.fields]
  | sib b i s d =>
    cases b with
    | some r => exact d.mod_ne_three
    | none => simp [Mem.fields]
  | a16 rm d => exact d.mod_ne_three
  | disp16 => simp [Mem.fields]

/-! ### ModRM and the immediate -/

/-- An r/m operand the mode can express is read as it was written; the bit above B counts for a register only. -/
theorem takeModRM_bytes {m : DecodeMode} {p : Pfx} {n : Nat} {o : Rm} (h : o.ok m p n = true) (reg : BitVec 3) {y : Bool}
    (hy : ∀ r, o = .reg r → y = r.getLsbD 4) (bs : List Byte) :
    takeModRM (addrSize m p.addr67) y o.fields.x o.fields.b (o.fields.bytes reg ++ bs) = some (reg, o, bs) := by
  obtain ⟨hmod, hreg, hrm⟩ := fields233 o.fields.mod reg o.fields.rm
  simp only [takeModRM, RmFields.bytes, List.cons_append, hmod, hreg, hrm]
  cases o with
  | reg r =>
    rw [hy r rfl]
    simp only [Rm.fields, if_true, reg5_low3, List.nil_append]
  | mem x =>
    simp only [Rm.fields, if_neg x.fields_mod, takeMem_fields h, Option.map_some]

theorem takeImm_toList (imm : Option Byte) (bs : List Byte) :
    takeImm imm.isSome (imm.toList ++ bs) = some (imm, bs) := by
  cases imm <;> rfl

end Sys2Proof
end

section
/-! The decoder reads back what the encoder writes (30_encoding.md R164 to R174, R190): the four classes of encodings, then
every instruction. -/

namespace Sys2Proof

/-! ### Register numbers in a mode -/

theorem GReg.bit3_of_not64 {m : DecodeMode} {r : GReg} (h : GReg.ok m r = true) (h64 : m.is64 = false) :
    r.getLsbD 3 = false := by
  rw [GReg.ok, h64, Bool.false_or, decide_eq_true_iff] at h
  revert r; decide

theorem VReg.bits_of_not64 {m : DecodeMode} {n : Nat} {r : VReg} (h : VReg.ok m n r = true) (h64 : m.is64 = false) :
    r.getLsbD 4 = false ∧ r.getLsbD 3 = false := by
  rw [VReg.ok, h64, decide_eq_true_iff, if_neg Bool.false_ne_true] at h
  revert r; decide

theorem VReg.bit4_of_ok16 {m : DecodeMode} {r : VReg} (h : VReg.ok m 16 r = true) : r.getLsbD 4 = false := by
  have hr : r.toNat < 16 := by
    rw [VReg.ok, decide_eq_true_iff] at h
    split at h <;> omega
  clear h
  revert r; decide

/-- Outside 64-bit mode no register needs an extension bit (R165, R172). -/
theorem Rm.fields_of_not64 {m : DecodeMode} {p : Pfx} {n : Nat} {o : Rm} (h : o.ok m p n = true)
    (h64 : m.is64 = false) : o.fields.x = false ∧ o.fields.b = false := by
  cases o with
  | reg r => exact VReg.bits_of_not64 h h64
  | mem x =>
    cases x with
    | base r d =>
      simp only [Rm.ok, Mem.ok, Bool.and_eq_true] at h
      exact ⟨rfl, GReg.bit3_of_not64 h.2 h64⟩
    | ripRel | a16 | disp16 => exact ⟨rfl, rfl⟩
    | sib base i s d =>
      cases base with
      | some r =>
        simp only [Rm.ok, Mem.ok, Bool.and_eq_true] at h
        exact ⟨GReg.bit3_of_not64 h.2 h64, GReg.bit3_of_not64 h.1.2 h64⟩
      | none =>
        simp only [Rm.ok, Mem.ok, Bool.and_eq_true] at h
        exact ⟨GReg.bit3_of_not64 h.2 h64, rfl⟩

/-- Where 16 vector registers can be named a register number has four bits. -/
theorem Rm.bit4_of_ok16 {m : DecodeMode} {p : Pfx} {o : Rm} (h : o.ok m p 16 = true) (r : VReg) (hr : o = .reg r) :
    false = r.getLsbD 4 := by
  subst hr
  exact (VReg.bit4_of_ok16 h).symm

/-! ### Legacy encodings -/

/-- The REX byte that `rexBytes` writes. -/
theorem rexByte_spec (w r x b : Bool) :
    let y : Byte := 4#4 ++ (BitVec.ofBool w ++ (BitVec.ofBool r ++ (BitVec.ofBool x ++ BitVec.ofBool b)))
    y ∉ prefixBytes ∧ Rex.ofByte y = some { w := w, r := r, x := x, b := b } := by
  revert w r x b; decide

/-- A byte with which an opcode, VEX or EVEX begins. -/
structure OpensOpcode (c : Byte) : Prop where
  notPrefix : c ∉ prefixBytes
  notRex : Rex.ofByte c = Option.none

/-- Prefixes and REX are read as they were written; REX needs 64-bit mode (R164, R165). -/
theorem parse_prefixes (m : DecodeMode) (p : Prefixes) {w r x b : Bool} (hrex : (w || r || x || b) = true → m.is64 = true)
    {c : Byte} (hc : OpensOpcode c) (bs : List Byte) :
    ∃ rex, rex.getD Rex.none = { w := w, r := r, x := x, b := b } ∧
      parse m (p.bytes ++ (rexBytes w r x b ++ c :: bs)) = parseOpcode m p rex (c :: bs) := by
  unfold rexBytes
  cases hs : (w || r || x || b) with
  | true =>
    obtain ⟨hp, hy⟩ := rexByte_spec w r x b
    refine ⟨some { w := w, r := r, x := x, b := b }, rfl, ?_⟩
    simp [parse, takePrefixes_bytes p hp, hrex hs, hy, Prefixes.add_eq_none hc.notPrefix, hc.notRex]
  | false =>
    simp only [Bool.or_eq_false_iff] at hs
    obtain ⟨⟨⟨rfl, rfl⟩, rfl⟩, rfl⟩ := hs
    refine ⟨Option.none, rfl, ?_⟩
    simp [parse, takePrefixes_bytes p hc.notPrefix, hc.notRex]

/-- Without a REX byte. -/
theorem parse_noRex (m : DecodeMode) (p : Prefixes) {c : Byte} (hc : OpensOpcode c) (bs : List Byte) :
    parse m (p.bytes ++ c :: bs) = parseOpcode m p Option.none (c :: bs) := by
  simp [parse, takePrefixes_bytes p hc.notPrefix, hc.notRex]

theorem opensOpcode_escape : OpensOpcode 0x0F#8 := ⟨by decide, by decide⟩
theorem opensOpcode_vex : OpensOpcode 0xC4#8 := ⟨by decide, by decide⟩
theorem opensOpcode_evex : OpensOpcode 0x62#8 := ⟨by decide, by decide⟩

/-- The escape bytes of a map lead to it (R150). -/
theorem parseOpcode_escape (m : DecodeMode) (p : Prefixes) (rex : Option Rex) {map : BitVec 2} {op : Byte}
    (hmap : map ≠ 0#2) (hop : map = 1#2 → op ≠ 0x38#8 ∧ op ≠ 0x3A#8) (bs : List Byte) :
    parseOpcode m p rex (escapeBytes map ++ op :: bs) = parseLegacy m p (rex.getD Rex.none) map (op :: bs) := by
  have cases : map = 0#2 ∨ map = 1#2 ∨ map = 2#2 ∨ map = 3#2 := by
    clear hmap hop
    revert map; decide
  rcases cases with rfl | rfl | rfl | rfl
  · exact absurd rfl hmap
  · obtain ⟨h38, h3A⟩ := hop rfl
    simp [escapeBytes, parseOpcode, h38, h3A]
  · rfl
  · rfl

theorem parseLegacy_bytes {m : DecodeMode} {p : Prefixes} {map : BitVec 2} {op : Byte} {rm : Rm} {imm : Option Byte}
    (hop : op ∈ legacyOps map) (hbare : ¬(map = 1#2 ∧ op ∈ bareOps)) (hrm : rm.ok m (p.toPfx false) 16 = true)
    (himm : imm.isSome = decide (map = 3#2)) (w : Bool) (reg : GReg) (bs : List Byte) :
    parseLegacy m p { w := w, r := reg.getLsbD 3, x := rm.fields.x, b := rm.fields.b } map
        (op :: (rm.fields.bytes (low3 reg) ++ (imm.toList ++ bs))) = .view (.legacy p w map op reg rm imm) bs := by
  have modrm := takeModRM_bytes hrm (low3 reg) (Rm.bit4_of_ok16 hrm) (imm.toList ++ bs)
  rw [show (p.toPfx false).addr67 = p.a67 from rfl] at modrm
  simp only [parseLegacy, if_neg hbare, if_pos hop, modrm, ← himm, takeImm_toList, reg4_low3]

/-! ### VEX encodings -/

theorem vexByte1_spec (r x b : Bool) (map : BitVec 5) :
    let y : Byte := BitVec.ofBool r ++ (BitVec.ofBool x ++ (BitVec.ofBool b ++ map))
    y.getLsbD 7 = r ∧ y.getLsbD 6 = x ∧ y.getLsbD 5 = b ∧ y.extractLsb' 0 5 = map ∧
      (r = true → x = true → y.extractLsb' 6 2 = 3#2) := by
  revert r x b map; decide

theorem vexByte2_spec (w l : Bool) (vvvv : BitVec 4) (pp : BitVec 2) :
    let y : Byte := BitVec.ofBool w ++ (vvvv ++ (BitVec.ofBool l ++ pp))
    y.getLsbD 7 = w ∧ y.extractLsb' 3 4 = vvvv ∧ y.getLsbD 2 = l ∧ y.extractLsb' 0 2 = pp := by
  revert w l vvvv pp; decide

/-- Outside 64-bit mode the top bit of vvvv does not count, and a register there has none (R172). -/
theorem vvvv_masked {m : DecodeMode} {r : GReg} (h : GReg.ok m r = true) : (if m.is64 then r else r &&& 7#4) = r := by
  cases h64 : m.is64 with
  | true => rfl
  | false =>
    rw [GReg.ok, h64, Bool.false_or, decide_eq_true_iff] at h
    rw [if_neg Bool.false_ne_true]
    clear h64
    revert r; decide

/-- Without forbidden prefixes none stands before VEX or EVEX (R176). -/
theorem toPfx_toPrefixes {p : Pfx} (h : p.ok = true) :
    (p.toPrefixes false false false).toPfx ((p.toPrefixes false false false).beforeVex Option.none) = p := by
  obtain ⟨forbidden, addr67, seg⟩ := p
  cases forbidden with
  | false => rfl
  | true => cases h

theorem parseVex_bytes {m : DecodeMode} {v : Vex} {map : BitVec 5} {op : Byte} {rm : Rm} {imm : Option Byte}
    (hmap : map = 2#5 ∨ map = 3#5) (hop : op ∈ vexOps map) (hv : v.ok m = true) (hrm : rm.ok m v.pfx 16 = true)
    (himm : imm.isSome = decide (map = 3#5)) (w l : Bool) (pp : BitVec 2) (bs : List Byte) :
    parseVex m (v.pfx.toPrefixes false false false) Option.none (v.reg.getLsbD 3) rm.fields.x rm.fields.b map w v.vvvv l
        pp (op :: (rm.fields.bytes (low3 v.reg) ++ (imm.toList ++ bs))) = .view (.vex v map w l pp op rm imm) bs := by
  simp only [Vex.ok, Bool.and_eq_true] at hv
  obtain ⟨⟨hp, -⟩, hvvvv⟩ := hv
  have modrm := takeModRM_bytes hrm (low3 v.reg) (Rm.bit4_of_ok16 hrm) (imm.toList ++ bs)
  have hb : (rm.fields.b && m.is64) = rm.fields.b := by
    cases h64 : m.is64 with
    | true => rw [Bool.and_true]
    | false => rw [(Rm.fields_of_not64 hrm h64).2, Bool.false_and]
  have known : map = 1#5 ∨ map = 2#5 ∨ map = 3#5 := .inr hmap
  rw [show v.pfx.addr67 = (v.pfx.toPrefixes false false false).a67 from rfl] at modrm
  simp only [parseVex, not_true, if_false, known, if_pos hop, hb, modrm, ← himm, takeImm_toList, reg4_low3,
    toPfx_toPrefixes hp, vvvv_masked hvvvv]

/-! ### EVEX encodings -/

theorem evexByte1_spec (r x b y : Bool) (res map : BitVec 2) :
    let p0 : Byte := BitVec.ofBool r ++ (BitVec.ofBool x ++ (BitVec.ofBool b ++ (BitVec.ofBool y ++ (res ++ map))))
    p0.getLsbD 7 = r ∧ p0.getLsbD 6 = x ∧ p0.getLsbD 5 = b ∧ p0.getLsbD 4 = y ∧ p0.extractLsb' 2 2 = res ∧
      p0.extractLsb' 0 2 = map ∧ (r = true → x = true → p0.extractLsb' 6 2 = 3#2) := by
  revert r x b y res map; decide

theorem evexByte2_spec (w one : Bool) (vvvv : BitVec 4) (pp : BitVec 2) :
    let p1 : Byte := BitVec.ofBool w ++ (vvvv ++ (BitVec.ofBool one ++ pp))
    p1.getLsbD 7 = w ∧ p1.extractLsb' 3 4 = vvvv ∧ p1.getLsbD 2 = one ∧ p1.extractLsb' 0 2 = pp ∧
      p1.getLsbD 6 = vvvv.getLsbD 3 := by
  revert w one vvvv pp; decide

theorem evexByte3_spec (z b v : Bool) (ll : BitVec 2) (aaa : BitVec 3) :
    let p2 : Byte := BitVec.ofBool z ++ (ll ++ (BitVec.ofBool b ++ (BitVec.ofBool v ++ aaa)))
    p2.getLsbD 7 = z ∧ p2.extractLsb' 5 2 = ll ∧ p2.getLsbD 4 = b ∧ p2.getLsbD 3 = v ∧ p2.extractLsb' 0 3 = aaa := by
  revert z b v ll aaa; decide

/-- V' and vvvv, written complemented, give the register number back (R173). -/
theorem evexVvvv (r : VReg) : (BitVec.ofBool (!!r.getLsbD 4) ++ ~~~(~~~(r.extractLsb' 0 4)) : VReg) = r := by
  revert r; decide

/-- Outside 64-bit mode bit 3 of vvvv does not count, and a register there has none (R172). -/
theorem evexVvvv_masked {m : DecodeMode} {n : Nat} {r : VReg} (h : VReg.ok m n r = true) :
    (if m.is64 then r else r &&& 0x17#5) = r := by
  cases h64 : m.is64 with
  | true => rfl
  | false =>
    rw [VReg.ok, h64, decide_eq_true_iff, if_neg Bool.false_ne_true] at h
    rw [if_neg Bool.false_ne_true]
    clear h64
    revert r; decide

/-- Outside 64-bit mode a well-formed instruction has the register-extension bits that R174 demands. -/
theorem evexExt_false {m : DecodeMode} {e : Evex} {rm : Rm} {unused : Bool} (hreg : VReg.ok m 32 e.reg = true)
    (hv : VReg.ok m 32 e.vvvv = true) (hrm : rm.ok m e.pfx 32 = true) (hu : unused = true → e.vvvv = 0#5) :
    (!m.is64 && (!!rm.fields.b || !!e.reg.getLsbD 4 || !!e.vvvv.getLsbD 4 ||
      (!(~~~(e.vvvv.extractLsb' 0 4)).getLsbD 3 && unused))) = false := by
  cases h64 : m.is64 with
  | true => rfl
  | false =>
    rw [(Rm.fields_of_not64 hrm h64).2, (VReg.bits_of_not64 hreg h64).1, (VReg.bits_of_not64 hv h64).1]
    cases unused with
    | false => simp
    | true => rw [hu rfl]; decide

theorem parseEvex_bytes {m : DecodeMode} {e : Evex} {map : BitVec 2} {op : Byte} {rm : Rm} {imm : Option Byte}
    (hmap : map ≠ 0#2) (hop : op ∈ evexOps map) (hp : e.pfx.ok = true) (hreg : VReg.ok m 32 e.reg = true)
    (hv : VReg.ok m 32 e.vvvv = true) (hu : vvvvUnused map op = true → e.vvvv = 0#5) (hrm : rm.ok m e.pfx 32 = true)
    (himm : imm.isSome = decide (map = 3#2)) (w : Bool) (ll pp : BitVec 2) (bs : List Byte) :
    parseEvex m (e.pfx.toPrefixes false false false) Option.none
        (BitVec.ofBool (!e.reg.getLsbD 3) ++ (BitVec.ofBool (!rm.fields.x) ++ (BitVec.ofBool (!rm.fields.b) ++
          (BitVec.ofBool (!e.reg.getLsbD 4) ++ (e.p0res ++ map)))))
        (BitVec.ofBool w ++ (~~~(e.vvvv.extractLsb' 0 4) ++ (BitVec.ofBool e.p1one ++ pp)))
        (BitVec.ofBool e.z ++ (ll ++ (BitVec.ofBool e.b ++ (BitVec.ofBool (!e.vvvv.getLsbD 4) ++ e.aaa))))
        (op :: (rm.fields.bytes (e.reg.extractLsb' 0 3) ++ (imm.toList ++ bs))) =
      .view (.evex e map w ll pp false op rm imm) bs := by
  obtain ⟨r7, x6, b5, y4, res, mapBits, -⟩ := evexByte1_spec (!e.reg.getLsbD 3) (!rm.fields.x) (!rm.fields.b)
    (!e.reg.getLsbD 4) e.p0res map
  obtain ⟨wBit, vBits, one, ppBits, v6⟩ := evexByte2_spec w e.p1one (~~~(e.vvvv.extractLsb' 0 4)) pp
  obtain ⟨zBit, llBits, bBit, v3, aaa⟩ := evexByte3_spec e.z e.b (!e.vvvv.getLsbD 4) ll e.aaa
  have modrm := takeModRM_bytes hrm (e.reg.extractLsb' 0 3) (y := rm.fields.x) (fun r hr => by subst hr; rfl)
    (imm.toList ++ bs)
  have ext := evexExt_false hreg hv hrm hu
  rw [show e.pfx.addr67 = (e.pfx.toPrefixes false false false).a67 from rfl] at modrm
  simp only [parseEvex, r7, x6, b5, y4, res, mapBits, wBit, vBits, one, ppBits, v6, zBit, llBits, bBit, v3, aaa,
    if_neg hmap, if_pos hop, evexVvvv, evexVvvv_masked hv, ext, ← himm, toPfx_toPrefixes hp]
  simp only [Bool.not_not, modrm, takeImm_toList, reg5_low3]

/-! ### Every encoding -/

/-- Fields that the decoder reads back: an opcode in scope, registers the mode can name, an immediate exactly in map 0F3A,
and the bits that must be fixed so. -/
def View.Legal (m : DecodeMode) : View → Prop
  | .bare _ op => op ∈ bareOps
  | .legacy p w map op reg rm imm =>
    op ∈ legacyOps map ∧ map ≠ 0#2 ∧ GReg.ok m reg = true ∧ rm.ok m (p.toPfx false) 16 = true ∧
      (w = true → m.is64 = true) ∧ imm.isSome = decide (map = 3#2)
  | .vex v map _ _ _ op rm imm =>
    (map = 2#5 ∨ map = 3#5) ∧ op ∈ vexOps map ∧ v.ok m = true ∧ rm.ok m v.pfx 16 = true ∧
      imm.isSome = decide (map = 3#5)
  | .evex e map _ _ _ ext op rm imm =>
    map ≠ 0#2 ∧ op ∈ evexOps map ∧ e.pfx.ok = true ∧ VReg.ok m 32 e.reg = true ∧ VReg.ok m 32 e.vvvv = true ∧
      (vvvvUnused map op = true → e.vvvv = 0#5) ∧ ext = false ∧ rm.ok m e.pfx 32 = true ∧
      imm.isSome = decide (map = 3#2)

/-- An opcode of map 0F with a ModRM byte is no escape and none without ModRM. -/
theorem legacyOps_map1 {op : Byte} (h : op ∈ legacyOps 1#2) : op ≠ 0x38#8 ∧ op ≠ 0x3A#8 ∧ op ∉ bareOps := by
  have : op = 0x01#8 ∨ op = 0x1C#8 ∨ op = 0xAE#8 := by simpa [legacyOps] using h
  rcases this with rfl | rfl | rfl <;> decide

theorem escapeBytes_cons (map : BitVec 2) : ∃ l, escapeBytes map = 0x0F#8 :: l := by
  unfold escapeBytes
  split
  · exact ⟨_, rfl⟩
  · split
    · exact ⟨_, rfl⟩
    · exact ⟨_, rfl⟩

theorem vexHere_of {m : DecodeMode} {y : Byte} (h : m.is64 = false → y.extractLsb' 6 2 = 3#2) : vexHere m y = true := by
  cases h64 : m.is64 with
  | true => simp [vexHere, h64]
  | false => simp [vexHere, h h64]

theorem parseOpcode_vex (m : DecodeMode) (p : Prefixes) (rex : Option Rex) {b1 : Byte} (h : vexHere m b1 = true)
    (b2 : Byte) (bs : List Byte) : parseOpcode m p rex (0xC4#8 :: b1 :: b2 :: bs) =
      parseVex m p rex (!b1.getLsbD 7) (!b1.getLsbD 6) (!b1.getLsbD 5) (b1.extractLsb' 0 5) (b2.getLsbD 7)
        (~~~(b2.extractLsb' 3 4)) (b2.getLsbD 2) (b2.extractLsb' 0 2) bs := by
  simp [parseOpcode, h]

theorem parseOpcode_evex (m : DecodeMode) (p : Prefixes) (rex : Option Rex) {b1 : Byte} (h : vexHere m b1 = true)
    (b2 b3 : Byte) (bs : List Byte) :
    parseOpcode m p rex (0x62#8 :: b1 :: b2 :: b3 :: bs) = parseEvex m p rex b1 b2 b3 bs := by
  simp [parseOpcode, h]

/-- The fields of an encoding are read back as they were written, whatever follows. -/
theorem parse_emit {m : DecodeMode} {v : View} (h : v.Legal m) (bs : List Byte) : parse m (emit v ++ bs) = .view v bs := by
  cases v with
  | bare p op =>
    have hop : op = 0xA2#8 ∨ op = 0x09#8 := by simpa [View.Legal, bareOps] using h
    rw [emit, List.append_assoc, List.cons_append, parse_noRex m p opensOpcode_escape]
    rcases hop with rfl | rfl <;> rfl
  | legacy p w map op reg rm imm =>
    obtain ⟨hop, hmap, hreg, hrm, hw, himm⟩ := h
    have hbare : ¬(map = 1#2 ∧ op ∈ bareOps) := by
      rintro ⟨rfl, hb⟩
      exact (legacyOps_map1 hop).2.2 hb
    have hesc (e : map = 1#2) : op ≠ 0x38#8 ∧ op ≠ 0x3A#8 := by
      subst e
      exact ⟨(legacyOps_map1 hop).1, (legacyOps_map1 hop).2.1⟩
    have hrex : (w || reg.getLsbD 3 || rm.fields.x || rm.fields.b) = true → m.is64 = true := by
      intro hs
      by_contra h64
      rw [Bool.not_eq_true] at h64
      have hw' : w = false := by
        cases w with
        | false => rfl
        | true => rw [hw rfl] at h64; cases h64
      rw [hw', GReg.bit3_of_not64 hreg h64, (Rm.fields_of_not64 hrm h64).1, (Rm.fields_of_not64 hrm h64).2] at hs
      cases hs
    obtain ⟨l, hl⟩ := escapeBytes_cons map
    obtain ⟨rex, hr, hparse⟩ := parse_prefixes m p hrex opensOpcode_escape
      (l ++ op :: (rm.fields.bytes (low3 reg) ++ (imm.toList ++ bs)))
    rw [← List.cons_append, ← hl, parseOpcode_escape m p rex hmap hesc, hr, parseLegacy_bytes hop hbare hrm himm] at hparse
    simpa only [emit, List.append_assoc, List.cons_append, List.nil_append] using hparse
  | vex v map w l pp op rm imm =>
    obtain ⟨hmap, hop, hv, hrm, himm⟩ := h
    have hregs := hv
    simp only [Vex.ok, Bool.and_eq_true] at hregs
    obtain ⟨⟨-, hreg⟩, -⟩ := hregs
    obtain ⟨r7, x6, b5, mapBits, top⟩ := vexByte1_spec (!v.reg.getLsbD 3) (!rm.fields.x) (!rm.fields.b) map
    obtain ⟨wBit, vBits, lBit, ppBits⟩ := vexByte2_spec w l (~~~v.vvvv) pp
    have here := vexHere_of (m := m) fun h64 =>
      top (by rw [GReg.bit3_of_not64 hreg h64]; rfl) (by rw [(Rm.fields_of_not64 hrm h64).1]; rfl)
    simp only [emit, List.append_assoc, List.cons_append, List.nil_append]
    rw [parse_noRex m _ opensOpcode_vex, parseOpcode_vex m _ _ here, r7, x6, b5, mapBits, wBit, vBits, lBit, ppBits,
      BitVec.not_not, Bool.not_not, Bool.not_not, Bool.not_not]
    exact parseVex_bytes hmap hop hv hrm himm w l pp bs
  | evex e map w ll pp ext op rm imm =>
    obtain ⟨hmap, hop, hp, hreg, hv, hu, rfl, hrm, himm⟩ := h
    obtain ⟨-, -, -, -, -, -, top⟩ := evexByte1_spec (!e.reg.getLsbD 3) (!rm.fields.x) (!rm.fields.b)
      (!e.reg.getLsbD 4) e.p0res map
    have here := vexHere_of (m := m) fun h64 =>
      top (by rw [(VReg.bits_of_not64 hreg h64).2]; rfl) (by rw [(Rm.fields_of_not64 hrm h64).1]; rfl)
    simp only [emit, List.append_assoc, List.cons_append, List.nil_append]
    rw [parse_noRex m _ opensOpcode_evex, parseOpcode_evex m _ _ here]
    exact parseEvex_bytes hmap hop hp hreg hv hu hrm himm w ll pp bs

end Sys2Proof
end

section
/-! Every well-formed instruction is read back from its encoding (30_encoding.md R150, R151, R204), which has at most 15
bytes. -/

namespace Sys2Proof

open Laws

/-! ### The fields of a well-formed instruction are legal -/

/-- The mandatory prefixes do not change an instruction's own prefixes. -/
theorem Pfx.toPfx_toPrefixes {p : Pfx} (h : p.ok = true) (p66 f3 f2 : Bool) : (p.toPrefixes p66 f3 f2).toPfx false = p := by
  obtain ⟨forbidden, addr67, seg⟩ := p
  cases forbidden with
  | false => rfl
  | true => cases h

/-- A legacy row with a ModRM byte: an opcode in scope, an immediate exactly in map 0F3A. -/
def legacyRow (map : BitVec 2) (op : Byte) (hasImm : Bool) : Bool :=
  decide (op ∈ legacyOps map) && map != 0#2 && hasImm == decide (map = 3#2)

/-- A VEX row. -/
def vexRow (map : BitVec 5) (op : Byte) (hasImm : Bool) : Bool :=
  decide (map = 2#5 ∨ map = 3#5) && decide (op ∈ vexOps map) && hasImm == decide (map = 3#5)

/-- An EVEX row; `nds`: it has a vvvv operand. -/
def evexRow (map : BitVec 2) (op : Byte) (nds hasImm : Bool) : Bool :=
  map != 0#2 && decide (op ∈ evexOps map) && !(nds && vvvvUnused map op) && hasImm == decide (map = 3#2)

section
variable {m : DecodeMode} {rm : Rm} {op : Byte} {imm : Option Byte}

theorem legacy_legal {p : Pfx} {r : GReg} {p66 f3 f2 w : Bool} {map : BitVec 2} (hp : p.ok = true)
    (hr : GReg.ok m r = true) (hrm : rm.ok m p 16 = true) (hw : w = true → m.is64 = true)
    (row : legacyRow map op imm.isSome = true) :
    (View.legacy (p.toPrefixes p66 f3 f2) w map op r rm imm).Legal m := by
  simp only [legacyRow, Bool.and_eq_true, decide_eq_true_eq, bne_iff_ne, beq_iff_eq] at row
  obtain ⟨⟨hop, hmap⟩, himm⟩ := row
  exact ⟨hop, hmap, hr, by rwa [Pfx.toPfx_toPrefixes hp], hw, himm⟩

theorem vex_legal {v : Vex} {w l : Bool} {pp : BitVec 2} {map : BitVec 5}
    (h : (v.ok m && rm.ok m v.pfx 16) = true) (row : vexRow map op imm.isSome = true) :
    (View.vex v map w l pp op rm imm).Legal m := by
  simp only [vexRow, Bool.and_eq_true, decide_eq_true_eq, beq_iff_eq] at h row
  obtain ⟨⟨hmap, hop⟩, himm⟩ := row
  exact ⟨hmap, hop, h.1, h.2, himm⟩

theorem evex_legal {e : Evex} {w nds bcast isMem : Bool} {k : Masking} {ll pp map : BitVec 2}
    (h : (e.ok m nds bcast k isMem && rm.ok m e.pfx 32) = true) (row : evexRow map op nds imm.isSome = true) :
    (View.evex e map w ll pp false op rm imm).Legal m := by
  simp only [Evex.ok, Bool.and_eq_true, Bool.or_eq_true, beq_iff_eq] at h
  simp only [evexRow, Bool.and_eq_true, decide_eq_true_eq, bne_iff_ne, beq_iff_eq, Bool.not_eq_true',
    Bool.and_eq_false_iff] at row
  obtain ⟨⟨⟨⟨⟨⟨⟨⟨hp, -⟩, -⟩, hnds⟩, -⟩, -⟩, hreg⟩, hv⟩, hrm⟩ := h
  obtain ⟨⟨⟨hmap, hop⟩, hused⟩, himm⟩ := row
  refine ⟨hmap, hop, hp, hreg, hv, fun hu => ?_, rfl, hrm, himm⟩
  rcases hnds with rfl | hzero
  · rw [hu] at hused
    simp at hused
  · exact hzero

end

theorem GReg.zero_ok (m : DecodeMode) : GReg.ok m 0#4 = true := by simp [GReg.ok]
theorem GReg.six_ok (m : DecodeMode) : GReg.ok m 6#4 = true := by simp [GReg.ok]

/-- A general register as the r/m operand. -/
theorem GReg.rm_ok {m : DecodeMode} {r : GReg} (h : GReg.ok m r = true) (p : Pfx) :
    (Rm.reg (r.setWidth 5)).ok m p 16 = true := by
  have hr := r.isLt
  simp only [Rm.ok, VReg.ok, decide_eq_true_iff, BitVec.toNat_setWidth]
  cases h64 : m.is64 with
  | true => simp; omega
  | false =>
    simp only [GReg.ok, h64, Bool.false_or, decide_eq_true_iff] at h
    simp; omega

theorem view_legal {m : DecodeMode} {i : Instr} (h : i.wellFormed m = true) : (view i).Legal m := by
  cases i with
  | cpuid | wbnoinvd => simp [view, View.Legal, bareOps]
  | cldemote p o =>
    simp only [Instr.wellFormed, Bool.and_eq_true] at h
    exact legacy_legal h.1 (GReg.zero_ok m) h.2 nofun rfl
  | movdiri32 p r o | movdir64b p r o | gf2p8affineqb p r rm | gf2p8affineinvqb p r rm | gf2p8mulb p r rm =>
    simp only [Instr.wellFormed, Bool.and_eq_true] at h
    exact legacy_legal h.1.1 h.1.2 h.2 nofun rfl
  | movdiri64 p r o =>
    simp only [Instr.wellFormed, Bool.and_eq_true] at h
    obtain ⟨⟨⟨hp, hr⟩, hm⟩, h64⟩ := h
    exact legacy_legal hp hr hm (fun _ => h64) rfl
  | pconfig p =>
    exact legacy_legal h (GReg.zero_ok m) (GReg.rm_ok (r := 5#4) (by simp [GReg.ok]) p) nofun rfl
  | tpause p r | umonitor p r | umwait p r =>
    simp only [Instr.wellFormed, Bool.and_eq_true] at h
    exact legacy_legal h.1 (GReg.six_ok m) (GReg.rm_ok h.2 p) nofun rfl
  | vgf2p8affineqbVex128 | vgf2p8affineqbVex256 | vgf2p8affineinvqbVex128 | vgf2p8affineinvqbVex256 | vgf2p8mulbVex128
  | vgf2p8mulbVex256 | vaesdecVex256 | vaesdeclastVex256 | vaesencVex256 | vaesenclastVex256 | vpclmulqdqVex256 =>
    exact vex_legal h rfl
  | _ => exact evex_legal h rfl

/-! ### Decoding an encoding -/

/-- The fields of an instruction's encoding select its row (R204). -/
theorem build_view (i : Instr) : build (view i) = .instr i := by
  cases i with
  | tpause p r => exact RowSelected.tpause p r
  | umonitor p r => exact RowSelected.umonitor p r
  | umwait p r => exact RowSelected.umwait p r
  | _ => rfl

theorem decode_encode_append {m : DecodeMode} {i : Instr} (h : i.wellFormed m = true) (rest : List Byte) :
    decode m (encode i ++ rest) = .instr i (encode i).length := by
  simp only [decode, encode, parse_emit (view_legal h), build_view, List.length_append, Nat.add_sub_cancel]

/-! ### The length of an encoding -/

theorem byteIf_length_le (c : Bool) (b : Byte) : (byteIf c b).length ≤ 1 := by cases c <;> simp [byteIf]

theorem segBytes_length_le (o : Option Seg) : (segBytes o).length ≤ 1 := by cases o <;> simp [segBytes]

/-- At most one of the mandatory prefixes is there, and no LOCK where none is forbidden. -/
theorem Pfx.bytes_length_le {p : Pfx} (h : p.ok = true) {p66 f3 f2 : Bool}
    (hone : p66.toNat + f3.toNat + f2.toNat ≤ 1) : (p.toPrefixes p66 f3 f2).bytes.length ≤ 3 := by
  have h67 := byteIf_length_le p.addr67 0x67#8
  have hseg := segBytes_length_le p.seg
  have hmand : (byteIf p66 0x66#8).length + (byteIf f3 0xF3#8).length + (byteIf f2 0xF2#8).length ≤ 1 := by
    revert p66 f3 f2; decide
  have hlock : p.forbidden = false := by simpa [Pfx.ok] using h
  simp only [Pfx.toPrefixes, Prefixes.bytes, hlock, byteIf, List.length_append, Bool.false_eq_true, if_false,
    List.length_nil] at *
  omega

theorem rexBytes_length_le (w r x b : Bool) : (rexBytes w r x b).length ≤ 1 := by
  unfold rexBytes; split <;> simp

theorem escapeBytes_length_le (map : BitVec 2) : (escapeBytes map).length ≤ 2 := by
  unfold escapeBytes; split_ifs <;> simp

theorem Disp.bytes_length_le (d : Disp) : d.bytes.length ≤ 4 := by cases d <;> simp [Disp.bytes]

/-- ModRM, SIB and a displacement of four bytes. -/
theorem Rm.bytes_length_le (o : Rm) (reg : BitVec 3) : (o.fields.bytes reg).length ≤ 6 := by
  refine Nat.succ_le_succ (?_ : o.fields.tail.length ≤ 5)
  cases o with
  | reg r => simp [Rm.fields]
  | mem x =>
    cases x with
    | base r d | a16 rm d => exact Nat.le_succ_of_le d.bytes_length_le
    | ripRel | disp16 => simp [Rm.fields, Mem.fields]
    | sib base i s d => cases base <;> exact Nat.succ_le_succ d.bytes_length_le

theorem toList_length_le (imm : Option Byte) : imm.toList.length ≤ 1 := by cases imm <;> simp

/-- The legacy prefixes of an encoding. -/
def View.prefixes : View → Prefixes
  | .bare p _ => p
  | .legacy p .. => p
  | .vex v .. => v.pfx.toPrefixes false false false
  | .evex e .. => e.pfx.toPrefixes false false false

/-- EVEX, its opcode, ModRM with what follows it, and an immediate are the longest of the four classes. -/
theorem emit_length_le (v : View) : (emit v).length ≤ v.prefixes.bytes.length + 12 := by
  cases v with
  | bare p op => simp [emit, View.prefixes]
  | legacy p w map op reg rm imm =>
    have hrex := rexBytes_length_le w (reg.getLsbD 3) rm.fields.x rm.fields.b
    have hesc := escapeBytes_length_le map
    have hrm := rm.bytes_length_le (low3 reg)
    have himm := toList_length_le imm
    simp only [emit, View.prefixes, List.length_append, List.length_cons, List.length_nil]
    omega
  | vex v map w l pp op rm imm =>
    have hrm := rm.bytes_length_le (low3 v.reg)
    have himm := toList_length_le imm
    simp only [emit, View.prefixes, List.length_append, List.length_cons, List.length_nil]
    omega
  | evex e map w ll pp ext op rm imm =>
    have hrm := rm.bytes_length_le (e.reg.extractLsb' 0 3)
    have himm := toList_length_le imm
    simp only [emit, View.prefixes, List.length_append, List.length_cons, List.length_nil]
    omega

theorem View.Legal.vex_pfx {m : DecodeMode} {v : Vex} {map : BitVec 5} {w l : Bool} {pp : BitVec 2} {op : Byte} {rm : Rm}
    {imm : Option Byte} (h : (View.vex v map w l pp op rm imm).Legal m) : v.pfx.ok = true := by
  obtain ⟨-, -, hv, -⟩ := h
  simp only [Vex.ok, Bool.and_eq_true] at hv
  exact hv.1.1

theorem View.Legal.evex_pfx {m : DecodeMode} {e : Evex} {map ll pp : BitVec 2} {w ext : Bool} {op : Byte} {rm : Rm}
    {imm : Option Byte} (h : (View.evex e map w ll pp ext op rm imm).Legal m) : e.pfx.ok = true := by
  obtain ⟨-, -, hp, -⟩ := h
  exact hp

/-- Address size, segment and one of the mandatory prefixes. -/
theorem view_prefixes_length_le {m : DecodeMode} {i : Instr} (h : i.wellFormed m = true) :
    (view i).prefixes.bytes.length ≤ 3 := by
  have legal := view_legal h
  cases i with
  | cpuid | wbnoinvd | pconfig => exact Pfx.bytes_length_le h (by decide)
  | cldemote | tpause | umonitor | umwait =>
    simp only [Instr.wellFormed, Bool.and_eq_true] at h
    exact Pfx.bytes_length_le h.1 (by decide)
  | movdiri32 | movdir64b | gf2p8affineqb | gf2p8affineinvqb | gf2p8mulb =>
    simp only [Instr.wellFormed, Bool.and_eq_true] at h
    exact Pfx.bytes_length_le h.1.1 (by decide)
  | movdiri64 =>
    simp only [Instr.wellFormed, Bool.and_eq_true] at h
    exact Pfx.bytes_length_le h.1.1.1 (by decide)
  | vgf2p8affineqbVex128 | vgf2p8affineqbVex256 | vgf2p8affineinvqbVex128 | vgf2p8affineinvqbVex256 | vgf2p8mulbVex128
  | vgf2p8mulbVex256 | vaesdecVex256 | vaesdeclastVex256 | vaesencVex256 | vaesenclastVex256 | vpclmulqdqVex256 =>
    exact Pfx.bytes_length_le legal.vex_pfx (by decide)
  | _ => exact Pfx.bytes_length_le legal.evex_pfx (by decide)

/-- No encoding is longer than an instruction may be (R151). -/
theorem encode_length_le {m : DecodeMode} {i : Instr} (h : i.wellFormed m = true) : (encode i).length ≤ 15 := by
  have hemit := emit_length_le (view i)
  have hpfx := view_prefixes_length_le h
  unfold encode
  omega

end Sys2Proof
end

section
/-! A step runs the instruction whose encoding stands in memory at RIP, where linear addresses are physical ones
(10_state.md R34; 20_memory.md R126). -/

namespace Sys2Proof.Machine

/-- The memory byte that `i` bytes after RIP names where nothing translates. -/
def State.codeByte (s : State) (i : Nat) : Byte := s.byte (s.physical (s.rip + BitVec.ofNat 64 i).toNat)

theorem State.is64_of_flat {s : State} (hf : s.Flat) : s.is64 = true := by
  obtain ⟨hm, -⟩ := hf
  simp [State.is64, hm]

theorem ripPlus_of_flat {s : State} (hf : s.Flat) (n : Nat) : ripPlus s n = s.rip + BitVec.ofNat 64 n := by
  simp only [ripPlus, State.is64_of_flat hf, if_true]

/-- Without bytes overwritten since the last serializing event a fetch sees memory (R126). -/
theorem fetchSees_of_stale_nil {s : State} (hs : s.stale = []) (pa i : Nat) : fetchSees s pa i = s.byte pa := by
  unfold fetchSees
  rw [hs]
  rfl

theorem fetchByte_of_flat {s : State} {i : Nat} (hf : s.Flat) (hs : s.stale = [])
    (hc : canonical s.cfg.linAddrBits (s.rip + BitVec.ofNat 64 i) = true) : fetchByte s i = .ok (s.codeByte i) := by
  have la : linearAddress s .cs (ripPlus s i) = s.rip + BitVec.ofNat 64 i := by
    simp only [linearAddress, State.is64_of_flat hf, if_true, ripPlus_of_flat hf]
  have range : CanonicalRange s (linearAddress s .cs (ripPlus s i)) 1 := by
    intro k hk
    obtain rfl : k = 0 := by omega
    simpa only [la, BitVec.add_zero] using hc
  have located := locate_flat (a := Access.code) hf range (Nat.mod_one _) rfl (by decide)
  simp only [fetchByte, located, ok_bind, la, byteAddrs, List.range_one, List.map_cons, BitVec.add_zero,
    fetchSees_of_stale_nil hs]
  rfl

theorem fetchFrom_of_flat {s : State} (hf : s.Flat) (hs : s.stale = []) (n i : Nat)
    (hc : ∀ k, k < n → canonical s.cfg.linAddrBits (s.rip + BitVec.ofNat 64 (i + k)) = true) :
    (fetchFrom s n i).1 = (List.range' i n).map s.codeByte := by
  induction n generalizing i with
  | zero => rfl
  | succ n ih =>
    have rest := ih (i + 1) fun k hk => by
      rw [Nat.add_right_comm]
      exact hc (k + 1) (Nat.succ_lt_succ hk)
    have here : fetchByte s i = .ok (s.codeByte i) := fetchByte_of_flat hf hs (hc 0 n.succ_pos)
    simp only [fetchFrom, here, rest, List.range'_succ, List.map_cons]

/-- The decoder is given the bytes in memory from RIP on. -/
theorem fetchBytes_of_flat {s : State} (hf : s.Flat) (hs : s.stale = []) (hc : CanonicalRange s s.rip 15) :
    (fetchBytes s).1 = (List.range 15).map s.codeByte := by
  have h := fetchFrom_of_flat hf hs maxInstrLen 0 fun k hk => by
    rw [Nat.zero_add]
    exact hc k hk
  rwa [← List.range_eq_range'] at h

/-- A list of bytes stands at the front of what a function lists. -/
theorem exists_map_range_eq_append {f : Nat → Byte} {l : List Byte} {n : Nat} (hl : l.length ≤ n)
    (h : ∀ k, k < l.length → f k = l.getD k 0#8) : ∃ rest, (List.range n).map f = l ++ rest := by
  have front : (List.range l.length).map f = l := by
    refine List.ext_getElem (by simp) fun k _ hk => ?_
    rw [List.getElem_map, List.getElem_range, h k hk, List.getElem_eq_getD]
  obtain ⟨d, rfl⟩ := Nat.exists_eq_add_of_le hl
  exact ⟨_, by rw [List.range_add, List.map_append, front]⟩

theorem State.tick_sys (s : State) : s.tick.sys = s.sys := by simp [State.tick]
theorem State.tick_stale (s : State) : s.tick.stale = s.stale := by simp [State.tick]

theorem State.tick_codeByte (s : State) (i : Nat) : s.tick.codeByte i = s.codeByte i := by
  simp only [State.codeByte, State.byte, State.physical, s.tick_mem, s.tick_cfg, s.tick_rip]

/-- The passing of time changes no translation. -/
theorem State.Flat.tick {s : State} (hf : s.Flat) : s.tick.Flat := by
  simpa [State.Flat, State.mode, State.eptOn, State.alignCheck, State.cpl, State.tick] using hf

/-- The instruction encoded at RIP is what a step's decoder reads. -/
theorem decode_fetched {s : State} {i : Instr} (hf : s.Flat) (hs : s.stale = []) (hc : CanonicalRange s s.rip 15)
    (hi : i.wellFormed .long = true) (hd : s.sys.cs.d = false)
    (hbytes : ∀ k, k < (encode i).length → s.codeByte k = (encode i).getD k 0#8) :
    decode s.decodeMode (fetchBytes s).1 = .instr i (encode i).length := by
  have mode : s.decodeMode = .long := by
    simp only [State.decodeMode, State.is64_of_flat hf, hd, DecodeMode.long]
  obtain ⟨rest, hrest⟩ := exists_map_range_eq_append (encode_length_le hi) hbytes
  rw [mode, fetchBytes_of_flat hf hs hc, hrest]
  exact decode_encode_append hi rest

/-- Settles O4. -/
theorem stepRunsEncoded : Obligations.StepRunsEncoded := by
  intro s i hf hh hin hs hc hi hd hbytes
  have decoded : decode s.tick.decodeMode (fetchBytes s.tick).1 = .instr i (encode i).length := by
    refine decode_fetched hf.tick (s.tick_stale.trans hs) ?_ hi (by rwa [s.tick_sys]) fun k hk => ?_
    · simpa only [CanonicalRange, s.tick_cfg, s.tick_rip] using hc
    · rw [s.tick_codeByte]
      exact hbytes k hk
  constructor
  · simpa only [step, hin] using runInstruction_of_decode hh decoded
  · exact (ripPlus_of_flat hf.tick _).trans (by rw [s.tick_rip])

end Sys2Proof.Machine
end

section
/-! Forbidden prefixes, which are LOCK and before VEX or EVEX those of R176, raise #UD in every course of an instruction
(20_memory.md R125; 30_encoding.md R176; the order is 60_exceptions.md R606, D9). -/

namespace Sys2Proof.Machine

/-- A course whose first check does not pass is #UD. -/
theorem finish_check_ud {s : State} {c : Bool} {f : Unit → Except Stop State} (h : c = false) :
    finish (check s c .ud >>= f) = .fault .undefinedOpcode := by
  subst h
  rfl

/-- A vector course whose encoding is not legal is #UD, whatever the features and the state are. -/
theorem finish_vecReady_illegal {s : State} {r : VecRow} {legal : Bool} {f : Unit → Except Stop State}
    (h : legal = false) : finish (vecReady s r legal >>= f) = .fault .undefinedOpcode := by
  subst h
  rfl

theorem evexLegal_forbidden {r : VecRow} {e : Evex} (h : e.pfx.forbidden = true) (isMem : Bool) :
    evexLegal r e isMem = false := by simp [evexLegal, h]

theorem pfx_of_mem_movdiriRows {n : Nat} {i : Instr} {p : Pfx} {r : GReg} {m : Mem} (h : (n, i) ∈ movdiriRows p r m) :
    i.pfx = p := by
  rcases List.mem_cons.mp h with h | h
  · cases h; rfl
  · cases List.mem_singleton.mp h; rfl

/-- The first check of every course fails where the instruction's prefixes are forbidden. -/
theorem Course.forbidden {i : Instr} {s : State} {o : Host.Outcome State Fault Refusal} (c : Course i s o)
    (h : i.pfx.forbidden = true) : o = .fault .undefinedOpcode := by
  cases c with
  | evex _ _ _ hp | shufBit _ hp | compressReg _ _ hp | compressMem _ hp | expandReg _ _ hp | expandMem _ _ hp =>
    exact finish_vecReady_illegal (evexLegal_forbidden (hp ▸ h) _)
  | vex _ _ _ hp | sse _ _ _ _ hp => exact finish_vecReady_illegal (by simp [← hp, h])
  | movdiri hi =>
    have hp := pfx_of_mem_movdiriRows hi
    exact finish_check_ud (by simp [← hp, h])
  | movdir64b hi | cpuid hi | cldemote hi | wbnoinvd hi =>
    subst hi
    simp only [Instr.pfx] at h
    exact finish_check_ud (by simp [h])
  | pconfig hi =>
    subst hi
    simp only [Instr.pfx] at h
    exact finish_check_ud (by simp [pconfigLegal, h])
  | tpause hi | umwait hi | umonitor hi =>
    subst hi
    simp only [Instr.pfx] at h
    exact finish_check_ud (by simp [waitpkgLegal, h])

/-- Settles O10: every instruction takes a course, and every course checks the prefixes first. -/
theorem forbiddenPrefixFaults : Obligations.ForbiddenPrefixFaults :=
  fun i s h => (exec_course i s).forbidden h

end Sys2Proof.Machine
end

section
/-! Stores whose bytes each lie at a place of its own: MOVDIRI (42_cldemote_movdir_wbnoinvd.md R327, R329; 30_encoding.md
R195) and another agent's store to the monitored block (45_waitpkg.md R383). -/

namespace Sys2Proof.Machine

/-! ### Bytes written at a list of addresses -/

theorem getD_map_range {α : Type} (f : Nat → α) (d : α) {n i : Nat} (hi : i < n) :
    ((List.range n).map f).getD i d = f i := by
  rw [← List.getElem_eq_getD (h := by simpa using hi)]
  simp

/-- Bytes written at distinct addresses stand each at its own. -/
theorem memByte_memSetMany_zip (mem : List Host.Cell) {pas : List Nat} {bs : List Byte} (hl : pas.length = bs.length)
    (hd : pas.Nodup) {i : Nat} (hi : i < bs.length) :
    memByte (memSetMany mem (pas.zip bs)) (pas.getD i 0) = bs.getD i 0#8 := by
  refine memByte_memSetMany_at _ _ (by rwa [List.map_fst_zip (Nat.le_of_eq hl)]) _ _ ?_
  have hp : i < pas.length := hl ▸ hi
  rw [← List.getElem_eq_getD (h := hp) 0, ← List.getElem_eq_getD (h := hi) 0#8]
  exact List.mem_of_getElem (i := i) (h := by simp [hp, hi]) List.getElem_zip

/-- What this logical processor stores at distinct addresses it reads back. -/
theorem State.byte_storeOwn_zip (s : State) {pas : List Nat} {bs : List Byte} (hl : pas.length = bs.length)
    (hd : pas.Nodup) {i : Nat} (hi : i < bs.length) :
    (s.storeOwn (pas.zip bs)).byte (pas.getD i 0) = bs.getD i 0#8 := by
  simp only [State.byte, (s.storeOwn_spec _).1]
  exact memByte_memSetMany_zip s.mem hl hd hi

/-! ### MOVDIRI -/

@[simp] theorem bytesOf64_length (v : Word64) (n : Nat) : (bytesOf64 v n).length = n := by simp [bytesOf64]

theorem bytesOf64_getD (v : Word64) {n i : Nat} (hi : i < n) :
    (bytesOf64 v n).getD i 0#8 = v.extractLsb' (8 * i) 8 := getD_map_range _ _ hi

/-- The common course of both MOVDIRI rows where every check passes. -/
theorem movdiri_next {n : Nat} {p : Pfx} {x : GReg} {m : Mem} {s u : State} {pas : List Nat} (hp : p.forbidden = false)
    (hf : s.cfg.features.movdiri = true)
    (hloc : locate s (Access.direct n) (memSeg s p m) (memOff s p 1 m) n = .ok (pas, u)) :
    ∃ t, movdiri n p x m s = .next t ∧ FrameStore pas s t ∧
      (pas.Nodup → ∀ i, i < n → t.byte (pas.getD i 0) = (s.gpr64 x).extractLsb' (8 * i) 8) := by
  obtain ⟨checked, hlen, -⟩ := locate_spec hloc
  have hl : pas.length = (bytesOf64 (s.gpr64 x) n).length := by simpa using hlen
  have written : writeMem s (Access.direct n) (memSeg s p m) (memOff s p 1 m) (bytesOf64 (s.gpr64 x) n) =
      .ok (u.storeOwn (pas.zip (bytesOf64 (s.gpr64 x) n))) := writeMem_of_locate (by simpa using hloc)
  refine ⟨_, by simp only [movdiri, hp, hf, written, Bool.not_false, Bool.true_and, check_true, ok_bind]; rfl,
    frameStore_storeOwn checked pas _ hl, fun hd i hi => ?_⟩
  rw [State.byte_complete, u.byte_storeOwn_zip hl hd (by simpa using hi), bytesOf64_getD _ hi]

/-- LOCK or the feature's absence is seen before the memory operand is (60_exceptions.md R606). -/
theorem movdiri_ud {n : Nat} {p : Pfx} {x : GReg} {m : Mem} {s : State}
    (h : p.forbidden = true ∨ s.cfg.features.movdiri = false) : movdiri n p x m s = .fault .undefinedOpcode :=
  finish_check_ud (by rcases h with h | h <;> simp [h])

/-- The bytes of MOVDIRI under 66H, or with a register destination, select no row and are #UD (30_encoding.md R195). -/
theorem buildLegacy_movdiri_undefined {p : Prefixes} (w : Bool) (x : GReg) {rm : Rm} (imm : Option Byte)
    (h : p.p66 = true ∨ (p.f2 = false ∧ p.f3 = false ∧ rm.isMem = false)) :
    buildLegacy p w 2#2 0xF9#8 x rm imm = .undefined := by
  cases h66 : p.p66 with
  | true => simp [buildLegacy, h66]
  | false =>
    obtain ⟨h2, h3, hrm⟩ := h.resolve_left (by simp [h66])
    cases rm with
    | mem m => cases hrm
    | reg r => simp [buildLegacy, h66, h2, h3]

/-- Both rows take the common course, each with its number of bytes. -/
theorem exec_movdiri {c : Nat × (Pfx → GReg → Mem → Instr)} (hc : c ∈ [(4, Instr.movdiri32), (8, .movdiri64)]) {p : Pfx}
    {x : GReg} {m : Mem} {s : State} : exec (c.2 p x m) s = movdiri c.1 p x m s := by
  rcases List.mem_cons.mp hc with rfl | hc
  · rfl
  · rw [List.mem_singleton.mp hc]
    rfl

/-- Settles O43. -/
theorem movdiriStores : Obligations.MovdiriStores := by
  refine ⟨fun c hc p x m s => ?_, fun p w x rm imm h => buildLegacy_movdiri_undefined w x imm h⟩
  rw [exec_movdiri hc]
  exact ⟨fun u pas => movdiri_next, movdiri_ud⟩

/-! ### Another agent's store -/

theorem cellsAt_fst (pa : Nat) (bytes : List Byte) : (cellsAt pa bytes).map (·.1) = chunkBytes pa bytes.length :=
  List.map_fst_zip (by simp [chunkBytes])

theorem mem_chunkBytes {pa n a : Nat} : a ∈ chunkBytes pa n ↔ pa ≤ a ∧ a < pa + n := by
  simp only [chunkBytes, List.mem_map, List.mem_range]
  exact ⟨fun ⟨i, hi, e⟩ => by omega, fun ⟨h1, h2⟩ => ⟨a - pa, by omega, by omega⟩⟩

/-- A store that lies in the physical address space lands whole (20_memory.md R101). -/
theorem cellsInside_cellsAt {c : Cfg} {pa : Nat} {bytes : List Byte} (h : pa + bytes.length ≤ 2 ^ c.maxPhyAddr) :
    cellsInside c (cellsAt pa bytes) = cellsAt pa bytes :=
  cellsInside_of_lt fun x hx => by
    have hm : x.1 ∈ chunkBytes pa bytes.length := cellsAt_fst pa bytes ▸ List.mem_map_of_mem hx
    exact Nat.lt_of_lt_of_le (mem_chunkBytes.mp hm).2 h

/-- Each byte of such a store stands at its place. -/
theorem State.byte_storeByAgent_cellsAt {s : State} {pa : Nat} {bytes : List Byte}
    (h : pa + bytes.length ≤ 2 ^ s.cfg.maxPhyAddr) {i : Nat} (hi : i < bytes.length) :
    (s.storeByAgent (cellsAt pa bytes)).byte (pa + i) = bytes.getD i 0#8 := by
  have place : (chunkBytes pa bytes.length).getD i 0 = pa + i := getD_map_range _ _ hi
  have distinct : (chunkBytes pa bytes.length).Nodup := List.nodup_range.map fun a b e => Nat.add_left_cancel e
  simp only [State.byte, (s.storeByAgent_spec _).1, cellsInside_cellsAt h]
  rw [← place]
  exact memByte_memSetMany_zip s.mem (by simp [chunkBytes]) distinct hi

/-- No byte beside the store changes. -/
theorem State.byte_storeByAgent_cellsAt_other (s : State) {pa a : Nat} {bytes : List Byte}
    (ha : a < pa ∨ pa + bytes.length ≤ a) : (s.storeByAgent (cellsAt pa bytes)).byte a = s.byte a := by
  simp only [State.byte, (s.storeByAgent_spec _).1]
  refine memByte_memSetMany_other _ _ _ fun hm => ?_
  obtain ⟨x, hx, rfl⟩ := List.mem_map.mp hm
  have hin : x.1 ∈ chunkBytes pa bytes.length :=
    cellsAt_fst pa bytes ▸ List.mem_map_of_mem ((mem_cellsInside _ _ x).mp hx).1
  have := mem_chunkBytes.mp hin
  omega

/-- A store that touches the monitored block leaves the monitor disarmed, armed or not before (45_waitpkg.md R383). -/
theorem State.monitor_storeByAgent_cellsAt {s : State} {pa b k : Nat} {bytes : List Byte}
    (hs : s.monitor = some b ∨ s.monitor = none) (hk : k < bytes.length) (hlo : b ≤ pa + k)
    (hhi : pa + k < b + monitorSize s.cfg) (h : pa + bytes.length ≤ 2 ^ s.cfg.maxPhyAddr) :
    (s.storeByAgent (cellsAt pa bytes)).monitor = none := by
  rw [(s.storeByAgent_spec _).2, cellsInside_cellsAt h, cellsAt_fst]
  rcases hs with hs | hs
  · have hit : s.monitorHit (chunkBytes pa bytes.length) = true := by
      simp only [State.monitorHit, hs, List.any_eq_true, Bool.and_eq_true, decide_eq_true_eq]
      exact ⟨pa + k, mem_chunkBytes.mpr ⟨by omega, by omega⟩, hlo, hhi⟩
    rw [if_pos hit]
  · rw [hs, ite_self]

/-- Settles O54: between the step's start and the store the monitor can only disarm. -/
theorem agentStoreTriggersMonitor : Obligations.AgentStoreTriggersMonitor := by
  intro s pa b k bytes rest hmon hk hlo hhi hin
  let v : State := { { s with inputs := .storeByAgent pa bytes :: rest }.tick with inputs := rest }
  have cfg : v.cfg = s.cfg := State.tick_cfg _
  have monitor : v.monitor = some b ∨ v.monitor = none := by
    rw [← hmon]
    exact State.tick_monitor { s with inputs := .storeByAgent pa bytes :: rest }
  have mem : SameMemory s v := fun a => by simp only [State.byte, v, State.tick_mem]
  refine ⟨v.storeByAgent (cellsAt pa bytes), rfl,
    State.monitor_storeByAgent_cellsAt monitor hk hlo (by rwa [cfg]) (by rwa [cfg]),
    fun i hi => State.byte_storeByAgent_cellsAt (by rwa [cfg]) hi,
    fun a ha => (v.byte_storeByAgent_cellsAt_other ha).trans (mem a),
    State.gpr64_congr ((v.storeByAgent_gpr _).trans (State.tick_gpr _)),
    (v.storeByAgent_rip _).trans (State.tick_rip _)⟩

end Sys2Proof.Machine
end

section
/-! Vector sources in memory where linear addresses are physical ones: the bytes of each element, of the whole operand and
of a broadcast element (60_exceptions.md R614; 20_memory.md R100). -/

namespace Sys2Proof.Machine

/-! ### Bytes at linear addresses -/

/-- The byte of memory `i` bytes after a linear address, where nothing translates. -/
def State.flatByte (s : State) (la : Word64) (i : Nat) : Byte := s.byte (s.physical (la + BitVec.ofNat 64 i).toNat)

theorem State.flatByte_add (s : State) (la : Word64) (d i : Nat) :
    s.flatByte (la + BitVec.ofNat 64 d) i = s.flatByte la (d + i) := by
  simp only [State.flatByte, BitVec.add_assoc, ← BitVec.ofNat_add]

theorem flatBytes_eq (s : State) (la : Word64) (n : Nat) :
    ((byteAddrs la n).map s.physical).map s.byte = (List.range n).map (s.flatByte la) := by
  simp [byteAddrs, State.flatByte, Function.comp_def]

/-- In 64-bit mode an offset further on is a linear address further on. -/
theorem linearAddress_add {s : State} (h : s.is64 = true) (seg : Seg) (off d : Word64) :
    linearAddress s seg (off + d) = linearAddress s seg off + d := by
  simp only [linearAddress, h, if_true]
  cases seg <;> simp [BitVec.add_assoc]

/-- A read of canonical addresses without alignment, `d` bytes after an offset. -/
theorem readMem_load_flat {s : State} {seg : Seg} {off : Word64} {d n : Nat} (hf : s.Flat)
    (hc : ∀ i, d ≤ i → i < d + n →
      canonical s.cfg.linAddrBits (linearAddress s seg off + BitVec.ofNat 64 i) = true) (hn : n ≤ 4096) :
    readMem s Access.load seg (off + BitVec.ofNat 64 d) n =
      .ok ((List.range' d n).map (s.flatByte (linearAddress s seg off)), s) := by
  have la := linearAddress_add (State.is64_of_flat hf) seg off (BitVec.ofNat 64 d)
  have range : CanonicalRange s (linearAddress s seg (off + BitVec.ofNat 64 d)) n := fun i hi => by
    rw [la, BitVec.add_assoc, ← BitVec.ofNat_add]
    exact hc (d + i) (Nat.le_add_right d i) (Nat.add_lt_add_left hi d)
  rw [readMem_flat hf range (Nat.mod_one _) rfl hn, flatBytes_eq, la, List.range'_eq_map_range, List.map_map]
  simp only [Function.comp_def, ← State.flatByte_add]

/-! ### Elements -/

/-- What reading elements of `k` bytes gives `i` bytes after the operand's address: the byte there where its element is
active, else a byte of the zeros an inactive element stands for (R614). -/
def State.elemByte (s : State) (la : Word64) (k : Nat) (act : Nat → Bool) (i : Nat) : Byte :=
  if act (i / k) then s.flatByte la i else 0#8

/-- The bytes of element `j`. -/
theorem elemBytes_eq (s : State) (la : Word64) (k : Nat) (act : Nat → Bool) (j : Nat) :
    (List.range' (j * k) k).map (s.elemByte la k act) =
      if act j then (List.range' (j * k) k).map (s.flatByte la) else List.replicate k 0#8 := by
  have byteOf : ∀ i ∈ List.range' (j * k) k, s.elemByte la k act i = if act j then s.flatByte la i else 0#8 := by
    intro i hi
    have bounds := List.mem_range'_1.mp hi
    rw [State.elemByte, Nat.div_eq_of_lt_le bounds.1 (by rw [Nat.succ_mul]; exact bounds.2)]
  rw [List.map_congr_left byteOf]
  cases act j <;> simp

/-- Reading `n` elements from element `j` on. -/
theorem readElems_flat {s : State} {seg : Seg} {off : Word64} {k : Nat} (act : Nat → Bool) (hf : s.Flat)
    (hk : k ≤ 4096) (n j : Nat)
    (hc : ∀ i, i < (j + n) * k → canonical s.cfg.linAddrBits (linearAddress s seg off + BitVec.ofNat 64 i) = true) :
    readElems s seg off k act n j =
      .ok ((List.range' (j * k) (n * k)).map (s.elemByte (linearAddress s seg off) k act), s) := by
  induction n generalizing j with
  | zero => simp [readElems]
  | succ n ih =>
    have rest := ih (j + 1) fun i hi => hc i (by rwa [Nat.add_right_comm] at hi)
    have split : (List.range' (j * k) ((n + 1) * k)).map (s.elemByte (linearAddress s seg off) k act) =
        (List.range' (j * k) k).map (s.elemByte (linearAddress s seg off) k act) ++
          (List.range' ((j + 1) * k) (n * k)).map (s.elemByte (linearAddress s seg off) k act) := by
      rw [Nat.succ_mul n, Nat.add_comm (n * k), ← List.range'_append_1, List.map_append, Nat.succ_mul j]
    rw [split, elemBytes_eq]
    cases hact : act j with
    | false =>
      simp only [readElems, hact, rest, ok_bind]
      rfl
    | true =>
      have read := readMem_load_flat (seg := seg) (off := off) (d := j * k) hf (fun i _ hi => hc i (by
        rw [Nat.add_mul, Nat.succ_mul]; omega)) hk
      simp only [readElems, hact, if_true, read, rest, ok_bind]
      rfl

/-! ### The r/m source of a vector instruction -/

/-- The displacement factor of a memory source without broadcast. -/
def VecRow.factor (r : VecRow) : Nat := if r.form = .evex then r.disp8 else 1

/-- Without broadcast and with fault suppression, each active element of the operand is its bytes in memory. -/
theorem memSrc_elems_flat {s : State} {r : VecRow} {p : Pfx} {act : Nat → Bool} {m : Mem} (hf : s.Flat)
    (hs : r.suppress = true) (hk : r.esz / 8 ≤ 4096) (hbytes : r.kl * (r.esz / 8) = r.vl / 8)
    (hc : CanonicalRange s (linearAddress s (memSeg s p m) (memOff s p r.factor m)) (r.vl / 8)) :
    memSrc s r p false act m = .ok (vecOfBytes ((List.range (r.vl / 8)).map
      (s.elemByte (linearAddress s (memSeg s p m) (memOff s p r.factor m)) (r.esz / 8) act)), s) := by
  have read := readElems_flat (k := r.esz / 8) act hf hk r.kl 0 fun i hi => hc i (by rwa [Nat.zero_add, hbytes] at hi)
  rw [Nat.zero_mul, hbytes, ← List.range_eq_range'] at read
  simp only [VecRow.factor] at read
  simp only [memSrc, hs, Bool.false_eq_true, if_false, if_true, read, ok_bind]
  rfl

/-- Without broadcast and without fault suppression the operand is read whole; a legacy-SSE form demands alignment (R106). -/
theorem memSrc_whole_flat {s : State} {r : VecRow} {p : Pfx} {act : Nat → Bool} {m : Mem} (hf : s.Flat)
    (hs : r.suppress = false) (hvl : r.vl / 8 ≤ 4096)
    (hc : CanonicalRange s (linearAddress s (memSeg s p m) (memOff s p r.factor m)) (r.vl / 8))
    (ha : r.form = .sse → (linearAddress s (memSeg s p m) (memOff s p r.factor m)).toNat % 16 = 0) :
    memSrc s r p false act m = .ok (vecOfBytes ((List.range (r.vl / 8)).map
      (s.flatByte (linearAddress s (memSeg s p m) (memOff s p r.factor m)))), s) := by
  have aligned : (linearAddress s (memSeg s p m) (memOff s p r.factor m)).toNat % (wholeLoad r.form).gpAlign = 0 := by
    simp only [wholeLoad]
    by_cases hsse : r.form = .sse
    · rw [if_pos hsse]; exact ha hsse
    · rw [if_neg hsse]; exact Nat.mod_one _
  have read := readMem_flat hf hc aligned rfl hvl
  rw [flatBytes_eq] at read
  simp only [VecRow.factor] at read
  simp only [memSrc, hs, Bool.false_eq_true, if_false, read, ok_bind]
  rfl

/-- The vector that broadcasts one element of `k` bytes. -/
def broadcastOf (vl k : Nat) (bs : List Byte) : Vec :=
  lanes (8 * k) (vl / (8 * k)) fun _ => (vecOfBytes bs).setWidth (8 * k)

/-- With broadcast one element is read, unless faults are suppressed and no element is active. -/
theorem memSrc_broadcast_flat {s : State} {r : VecRow} {p : Pfx} {act : Nat → Bool} {m : Mem} (hf : s.Flat)
    (hform : r.form = .evex) (hb : r.bcast ≤ 4096)
    (hc : CanonicalRange s (linearAddress s (memSeg s p m) (memOff s p r.bcast m)) r.bcast)
    (hact : r.suppress = false ∨ ∃ j, j < r.kl ∧ act j = true) :
    memSrc s r p true act m = .ok (broadcastOf r.vl r.bcast ((List.range r.bcast).map
      (s.flatByte (linearAddress s (memSeg s p m) (memOff s p r.bcast m)))), s) := by
  have accessed : (r.suppress && !(List.range r.kl).any act) = false := by
    rcases hact with h | ⟨j, hj, h⟩
    · simp [h]
    · have some : (List.range r.kl).any act = true := List.any_eq_true.mpr ⟨j, List.mem_range.mpr hj, h⟩
      simp [some]
  have read := readMem_flat (a := Access.load) hf hc (Nat.mod_one _) rfl hb
  rw [flatBytes_eq] at read
  simp only [memSrc, hform, accessed, Bool.false_eq_true, if_false, if_true, read, ok_bind]
  rfl

/-- A byte of a broadcast is that byte of the element. -/
theorem elem_broadcastOf (bs : List Byte) {vl k j : Nat} (hk : k = 4 ∨ k = 8) (hvl : vl = 128 ∨ vl = 256 ∨ vl = 512)
    (hj : j < vl / 8) : elem 8 (broadcastOf vl k bs) j = bs.getD (j % k) 0#8 := by
  have whole : 8 * k * (vl / (8 * k)) = vl := by
    rcases hk with rfl | rfl <;> rcases hvl with rfl | rfl | rfl <;> rfl
  apply BitVec.eq_of_getLsbD_eq
  intro i hi
  have inside : 8 * j + i < vl ∧ 8 * j + i < 512 := by omega
  have place : (8 * j + i) % (8 * k) = 8 * (j % k) + i := by rcases hk with rfl | rfl <;> omega
  have byteOf : (8 * (j % k) + i) / 8 = j % k ∧ (8 * (j % k) + i) % 8 = i := by omega
  have low : 8 * (j % k) + i < 8 * k ∧ 8 * (j % k) + i < 512 := by rcases hk with rfl | rfl <;> omega
  rw [getLsbD_elem, broadcastOf, getLsbD_lanes _ _ _ _ (by omega), whole, place, BitVec.getLsbD_setWidth,
    getLsbD_vecOfBytes, byteOf.1, byteOf.2]
  simp [hi, inside, low]

/-- Settles O39. -/
theorem vectorSourceBytes : Obligations.VectorSourceBytes := by
  intro s r p act m hf hvl hesz
  have hbytes : r.kl * (r.esz / 8) = r.vl / 8 := by
    simp only [VecRow.kl]
    rcases hesz with h | h | h | h <;> rcases hvl with h' | h' | h' <;> rw [h, h']
  refine ⟨fun b x => rfl, fun hc ha => ?_, fun hform hb hc hact => ?_⟩
  · cases hs : r.suppress with
    | true =>
      refine ⟨_, memSrc_elems_flat hf hs (by omega) hbytes hc, fun j hj h => ?_⟩
      rw [elem_vecOfBytes _ _ (by omega), getD_map_range _ _ hj, State.elemByte, if_pos (by simpa [hs] using h)]
      rfl
    | false =>
      refine ⟨_, memSrc_whole_flat hf hs (by omega) hc ha, fun j hj _ => ?_⟩
      rw [elem_vecOfBytes _ _ (by omega), getD_map_range _ _ hj]
      rfl
  · refine ⟨_, memSrc_broadcast_flat hf hform (by omega) hc hact, fun j hj => ?_⟩
    rw [elem_broadcastOf _ hb hvl hj, getD_map_range _ _ (Nat.mod_lt _ (by omega))]
    rfl

end Sys2Proof.Machine
end

section
/-! VPEXPANDB and VPEXPANDW from memory (47_vbmi2.md R426, R427): the elements read go to the active positions in turn, and
the lowest element that cannot be read decides the outcome (60_exceptions.md R614, R615; D22). -/

namespace Sys2Proof.Machine

/-! ### Elements of a vector made of bytes -/

/-- A bit of the number some bytes stand for. -/
theorem testBit_bytesValue (bs : List Byte) (i : Nat) :
    (bytesValue bs).testBit i = (bs.getD (i / 8) 0#8).getLsbD (i % 8) := by
  induction bs generalizing i with
  | nil => simp [bytesValue]
  | cons b bs ih =>
    rw [bytesValue, Nat.add_comm, show 256 = 2 ^ 8 from rfl, Nat.testBit_two_pow_mul_add _ b.isLt]
    by_cases hi : i < 8
    · rw [if_pos hi, Nat.div_eq_of_lt hi, Nat.mod_eq_of_lt hi]
      rfl
    · have next : i / 8 = (i - 8) / 8 + 1 ∧ i % 8 = (i - 8) % 8 := by omega
      rw [if_neg hi, ih, next.1, next.2, List.getD_cons_succ]

/-- Element `j` of a vector of bytes is the number its `k` bytes stand for (20_memory.md R100). -/
theorem elem_vecOfBytes_eq_bytesValue (bs : List Byte) {w k j : Nat} (hw : w = 8 * k) (hj : k * (j + 1) ≤ 64) :
    elem w (vecOfBytes bs) j = BitVec.ofNat w (bytesValue ((bs.drop (j * k)).take k)) := by
  apply BitVec.eq_of_getLsbD_eq
  intro i hi
  have inside : w * j + i < 512 := by subst hw; rw [Nat.mul_succ] at hj; rw [Nat.mul_assoc]; omega
  have place : (w * j + i) / 8 = j * k + i / 8 ∧ (w * j + i) % 8 = i % 8 := by
    subst hw; rw [Nat.mul_assoc, Nat.mul_comm k j]; omega
  have low : i / 8 < k := by omega
  rw [getLsbD_elem, getLsbD_vecOfBytes, BitVec.getLsbD_ofNat, testBit_bytesValue, place.1, place.2,
    List.getD_eq_getElem?_getD, List.getD_eq_getElem?_getD, List.getElem?_take_of_lt low, List.getElem?_drop]
  simp [hi, inside]

/-! ### The course of an expand from memory -/

section
variable {r : VecRow} {e : Evex} {m : Mem} {s u : State} {bs : List Byte}

theorem rankOf_le (act : Nat → Bool) (j : Nat) : rankOf act j ≤ j :=
  (List.length_filter_le ..).trans (Nat.le_of_eq List.length_range)

/-- An active position gets the element whose place is the number of active positions below it (R426). -/
theorem elem_expanded {act : Nat → Bool} {j : Nat} (src : Vec) (hw : 0 < r.esz) (hv : r.esz * r.kl ≤ 512)
    (hj : j < r.kl) (hact : act j = true) : elem r.esz (expanded r act src) j = elem r.esz src (rankOf act j) := by
  rw [expanded, elem_lanes _ _ _ _ hw hv hj, if_pos hact]

/-- Where the elements can be read. -/
theorem runExpandMem_next (hf : r.form = .evex) (hd8 : r.disp8 = r.esz / 8)
    (hr : vecReady s r (evexLegal r e true) = .ok ())
    (hs : readElems s (memSeg s e.pfx m) (memOff s e.pfx (r.esz / 8) m) (r.esz / 8) (fun _ => true)
      (activeCount r (active s e.aaa)) 0 = .ok (bs, u)) :
    ∃ t, runExpandMem r e m s = .next t ∧ FrameVec e.reg s t ∧
      t.vec e.reg = maskMerge r (active s e.aaa) e.z (s.vec e.reg) (expanded r (active s e.aaa) (vecOfBytes bs)) := by
  have checked := (readElems_spec _ hs).1
  refine ⟨_, by simp only [runExpandMem, hr, hd8, hs, ok_bind]; rfl, frameVec_setVec checked _ _, ?_⟩
  rw [State.vec_complete, State.vec_setVec_same, checked.cfg, vecReady_evex hr hf]

/-- Each active element is the next of those read. -/
theorem maskedElems_expanded {k : Nat} {v : Vec} (hw : r.esz = 8 * k) (hk : 0 < k) (hvl : r.vl ≤ 512)
    (hd : r.esz * (r.vl / r.esz) = r.vl)
    (hv : v = maskMerge r (active s e.aaa) e.z (s.vec e.reg) (expanded r (active s e.aaa) (vecOfBytes bs))) :
    MaskedElems r.esz r.vl s e v fun j =>
      BitVec.ofNat r.esz (bytesValue ((bs.drop (rankOf (active s e.aaa) j * k)).take k)) := by
  subst hv
  refine (hasElems_maskMerge r _ _ _ _ (by omega) hvl hd).congr fun j hj => ?_
  dsimp only
  by_cases hact : active s e.aaa j = true
  · have fits : k * (rankOf (active s e.aaa) j + 1) ≤ 64 := by
      have h1 : k * (rankOf (active s e.aaa) j + 1) ≤ k * (r.vl / r.esz) :=
        Nat.mul_le_mul_left k (Nat.lt_of_le_of_lt (rankOf_le _ j) hj)
      rw [hw, Nat.mul_assoc, ← hw] at hd
      omega
    rw [if_pos hact, if_pos hact, elem_expanded _ (by omega) (Nat.le_trans (Nat.le_of_eq hd) hvl) hj hact,
      elem_vecOfBytes_eq_bytesValue _ hw fits]
  · rw [if_neg hact, if_neg hact]

/-- Where the first `k` elements can be read and the next one cannot, what stops that one is the outcome (D22). -/
theorem runExpandMem_stop {k : Nat} {x : Stop} (hd8 : r.disp8 = r.esz / 8)
    (hr : vecReady s r (evexLegal r e true) = .ok ())
    (hk : k < activeCount r (active s e.aaa))
    (hs : readElems s (memSeg s e.pfx m) (memOff s e.pfx (r.esz / 8) m) (r.esz / 8) (fun _ => true) k 0 = .ok (bs, u))
    (hx : readMem u Access.load (memSeg s e.pfx m) (memOff s e.pfx (r.esz / 8) m + BitVec.ofNat 64 (k * (r.esz / 8)))
      (r.esz / 8) = .error x) : runExpandMem r e m s = finish (.error x) := by
  obtain ⟨d, hd⟩ := Nat.exists_eq_add_of_lt hk
  have stopped : readElems s (memSeg s e.pfx m) (memOff s e.pfx (r.esz / 8) m) (r.esz / 8) (fun _ => true)
      (activeCount r (active s e.aaa)) 0 = .error x := by
    rw [hd, Nat.add_assoc, readElems_add, hs, ok_bind]
    simp only [readElems, Nat.zero_add, if_true, hx, error_bind]
  simp only [runExpandMem, hr, hd8, stopped, ok_bind, error_bind]

end

/-! ### The rows -/

/-- The rows of VPEXPANDB and VPEXPANDW with a memory source: element width, vector length, instruction. -/
def expandMemRows : List (Nat × Nat × (Evex → Mem → Instr)) :=
  [(8, 128, .vpexpandbMem128), (8, 256, .vpexpandbMem256), (8, 512, .vpexpandbMem512), (16, 128, .vpexpandwMem128),
    (16, 256, .vpexpandwMem256), (16, 512, .vpexpandwMem512)]

/-- What `r` has to be for a row of expand from memory, and that the instruction takes that course. -/
structure ExpandsAs (w vl : Nat) (mk : Evex → Mem → Instr) (r : VecRow) : Prop where
  esz : r.esz = w
  length : r.vl = vl
  form : r.form = .evex
  disp8 : r.disp8 = w / 8
  bytes : w = 8 * (w / 8)
  width : 0 < w / 8
  fits : vl ≤ 512
  divides : w * (vl / w) = vl
  run : ∀ e m s, exec (mk e m) s = runExpandMem r e m s

theorem expandsAs_of_mem {c : Nat × Nat × (Evex → Mem → Instr)} (hc : c ∈ expandMemRows) {e : Evex} {m : Mem} {r : VecRow}
    (hr : (c.2.2 e m).vecRow = some r) : ExpandsAs c.1 c.2.1 c.2.2 r := by
  simp only [expandMemRows, List.mem_cons, List.not_mem_nil, or_false] at hc
  rcases hc with rfl | rfl | rfl | rfl | rfl | rfl
  all_goals
    cases hr
    exact ⟨rfl, rfl, rfl, rfl, by decide, by decide, by decide, by decide, fun _ _ _ => rfl⟩

/-- Settles O31: the rows share one course; its reads are those of the elements one by one. -/
theorem expandMemory : Obligations.ExpandMemory := by
  constructor
  · rintro ⟨w, vl, mk⟩ hc e m s u r bs hr hready
    obtain ⟨rfl, rfl, hform, hdisp, hbytes, hwidth, hfits, hdiv, hrun⟩ := expandsAs_of_mem hc hr
    dsimp only
    rw [hrun]
    refine ⟨fun hread => ?_, fun k x hk hread hx => runExpandMem_stop hdisp hready hk hread hx⟩
    obtain ⟨t, hnext, hframe, hv⟩ := runExpandMem_next hform hdisp hready hread
    exact ⟨t, hnext, hframe, maskedElems_expanded hbytes hwidth hfits hdiv hv⟩
  · intro s seg off k n hf hk _ hc
    have read := readElems_flat (k := k) (fun _ => true) hf (by omega) n 0 (by rw [Nat.zero_add]; exact hc)
    rw [Nat.zero_mul, ← List.range_eq_range'] at read
    exact read

end Sys2Proof.Machine
end

section
/-! Alignment faults in 64-bit mode without paging: #GP(0) of an operand that must be aligned and #AC(0) where alignment
checking is on, each before any second-level check of the same access (20_memory.md R104, R106, R107). -/

namespace Sys2Proof.Machine

/-! ### The checks of an access before the second level -/

/-- Canonical addresses have a legal form in 64-bit mode (R105). -/
theorem formFault_eq_none_of_canonical {s : State} {seg : Seg} {off : Word64} {n : Nat} (hm : s.mode = .long)
    (hc : CanonicalRange s (linearAddress s seg off) n) (a : Access) : formFault s a seg off n = none := by
  have legal : ((List.range n).all fun i => canonical s.cfg.linAddrBits (linearAddress s seg off + BitVec.ofNat 64 i)) =
      true := List.all_eq_true.mpr fun i hi => hc i (List.mem_range.mp hi)
  simp only [formFault, hm, legal, if_true]

/-- The alignment an access demands is checked before translation (R106). -/
theorem locate_gp_of_unaligned {s : State} {a : Access} {seg : Seg} {off : Word64} {n : Nat} (hm : s.mode = .long)
    (hc : CanonicalRange s (linearAddress s seg off) n) (ha : (linearAddress s seg off).toNat % a.gpAlign ≠ 0) :
    locate s a seg off n = .error (raise s .gp) := by
  simp only [locate, formFault_eq_none_of_canonical hm hc, ha, decide_false, check_false, error_bind]

/-- The alignment that #AC checks is looked at after translation and before the second level (R104, R107). -/
theorem locate_ac_of_unaligned {s : State} {a : Access} {seg : Seg} {off : Word64} {n : Nat} (hm : s.mode = .long)
    (hp : s.paging = none) (hc : CanonicalRange s (linearAddress s seg off) n) (hgp : a.gpAlign = 1)
    (hac : s.alignCheck = true) (ha : (linearAddress s seg off).toNat % a.acAlign ≠ 0) :
    locate s a seg off n = .error (raise s .ac) := by
  simp only [locate, formFault_eq_none_of_canonical hm hc, hgp, Nat.mod_one, decide_true, check_true, ok_bind,
    translateAll_identity hp, hac, ha, decide_false, Bool.not_true, Bool.or_false, check_false, error_bind]

theorem readMem_of_locate_error {s : State} {a : Access} {seg : Seg} {off : Word64} {n : Nat} {x : Stop}
    (h : locate s a seg off n = .error x) : readMem s a seg off n = .error x := by
  simp only [readMem, h, error_bind]

theorem writeMem_of_locate_error {s : State} {a : Access} {seg : Seg} {off : Word64} {bs : List Byte} {x : Stop}
    (h : locate s a seg off bs.length = .error x) : writeMem s a seg off bs = .error x := by
  simp only [writeMem, h, error_bind]

/-! ### What addresses depend on -/

/-- The mode is decided by system registers and RFLAGS (10_state.md R38). -/
theorem State.mode_congr {s t : State} (hsys : t.sys = s.sys) (hflags : t.rflags = s.rflags) : t.mode = s.mode := by
  simp only [State.mode, hsys, hflags]

/-- So is the linear address of an offset (R103). -/
theorem linearAddress_congr {s t : State} (hsys : t.sys = s.sys) (hflags : t.rflags = s.rflags) (seg : Seg)
    (off : Word64) : linearAddress t seg off = linearAddress s seg off := by
  have is64 : t.is64 = s.is64 := by rw [State.is64, State.is64, State.mode_congr hsys hflags]
  have segment : t.segment seg = s.segment seg := by cases seg <;> simp only [State.segment, hsys]
  unfold linearAddress
  rw [is64, segment, hsys]

/-- #GP and #AC have error code 0 in 64-bit mode (60_exceptions.md R601). -/
theorem raise_long {s : State} (hm : s.mode = .long) :
    raise s .gp = .fault (.exception .gp (some 0#32) none) ∧ raise s .ac = .fault (.exception .ac (some 0#32) none) := by
  simp [raise, errorCode, hm]

/-! ### The three operands -/

section
variable {s : State} {p : Pfx} {m : Mem}

/-- An unaligned operand of a legacy-SSE form (R106, D26). -/
theorem vecSrc_sse_unaligned {r : VecRow} (act : Nat → Bool) (hm : s.mode = .long) (hform : r.form = .sse)
    (hs : r.suppress = false) (hvl : r.vl = 128) (hc : CanonicalRange s (linearAddress s (memSeg s p m) (memOff s p 1 m)) 16)
    (ha : (linearAddress s (memSeg s p m) (memOff s p 1 m)).toNat % 16 ≠ 0) :
    vecSrc s r p false act (.mem m) = .error (.fault (.exception .gp (some 0#32) none)) := by
  have read : readMem s (wholeLoad .sse) (memSeg s p m) (memOff s p 1 m) 16 = .error (raise s .gp) :=
    readMem_of_locate_error (locate_gp_of_unaligned hm hc ha)
  simp [vecSrc, memSrc, hform, hs, hvl, read, (raise_long hm).1]

/-- An unaligned MOVDIR64B destination, once the source is read (R106). -/
theorem execMovdir64b_unaligned {x : GReg} {bs : List Byte} {t : State} (hm : s.mode = .long) (hp : p.forbidden = false)
    (hf : s.cfg.features.movdir64b = true)
    (hread : readMem s Access.load (memSeg s p m) (memOff s p 1 m) 64 = .ok (bs, t))
    (hc : CanonicalRange s (linearAddress s .es (s.gprAddr (s.addrSize p) x)) 64)
    (ha : (linearAddress s .es (s.gprAddr (s.addrSize p) x)).toNat % 64 ≠ 0) :
    execMovdir64b p x m s = .fault (.exception .gp (some 0#32) none) := by
  obtain ⟨checked, hlen, -⟩ := readMem_spec hread
  have hmt : t.mode = .long := (State.mode_congr checked.sys checked.rflags).trans hm
  have hla := linearAddress_congr checked.sys checked.rflags .es (s.gprAddr (s.addrSize p) x)
  have hct : CanonicalRange t (linearAddress t .es (s.gprAddr (s.addrSize p) x)) 64 := by
    rw [CanonicalRange, checked.cfg, hla]
    exact hc
  have written : writeMem t Access.direct64 .es (s.gprAddr (s.addrSize p) x) bs = .error (raise t .gp) :=
    writeMem_of_locate_error (by
      rw [hlen]
      exact locate_gp_of_unaligned hmt hct (by rw [hla]; exact ha))
  simp only [execMovdir64b, hp, hf, Bool.not_false, Bool.true_and, check_true, hread, written, ok_bind, error_bind,
    (raise_long hmt).1]
  rfl

/-- An unaligned MOVDIRI destination where alignment checking is on (R107). -/
theorem movdiri_unaligned {n : Nat} {x : GReg} (hm : s.mode = .long) (hpg : s.paging = none) (hp : p.forbidden = false)
    (hf : s.cfg.features.movdiri = true) (hac : s.alignCheck = true)
    (hc : CanonicalRange s (linearAddress s (memSeg s p m) (memOff s p 1 m)) n)
    (ha : (linearAddress s (memSeg s p m) (memOff s p 1 m)).toNat % n ≠ 0) :
    movdiri n p x m s = .fault (.exception .ac (some 0#32) none) := by
  have written : writeMem s (Access.direct n) (memSeg s p m) (memOff s p 1 m) (bytesOf64 (s.gpr64 x) n) =
      .error (raise s .ac) := writeMem_of_locate_error (by
    rw [bytesOf64_length]
    exact locate_ac_of_unaligned hm hpg hc rfl hac ha)
  simp only [movdiri, hp, hf, Bool.not_false, Bool.true_and, check_true, written, ok_bind, error_bind, (raise_long hm).2]
  rfl

end

/-- Settles O41. -/
theorem alignmentFaults : Obligations.AlignmentFaults := by
  intro s p m hm hpg hp
  refine ⟨fun r act hform hs hvl => vecSrc_sse_unaligned act hm hform hs hvl,
    fun x bs t hf hread => execMovdir64b_unaligned hm hp hf hread, fun c hc x hf hac hcan ha => ?_⟩
  rw [exec_movdiri hc]
  exact movdiri_unaligned hm hpg hp hf hac hcan ha

end Sys2Proof.Machine
end

section
/-! Split locks (53_split_lock_detection.md R591, R592): a locked access is checked as a plain write is, with one check more
between translation and the second level; outside an enclave the second level raises no fault that this check could hide. -/

namespace Sys2Proof.Machine

/-! ### Computations that raise no fault -/

/-- The computation gives no fault: it completes, is refused or leaves the guest. -/
structure NoFault {α : Type} (x : Except Stop α) : Prop where
  ne_fault : ∀ f, x ≠ .error (.fault f)

section
variable {α β : Type}

theorem NoFault.ok (a : α) : NoFault (.ok a) := ⟨fun _ h => by cases h⟩

theorem NoFault.exit (t : State) : NoFault (.error (.exit t) : Except Stop α) := ⟨fun _ h => by cases h⟩

theorem NoFault.bind {x : Except Stop α} {g : α → Except Stop β} (hx : NoFault x)
    (hg : ∀ a, x = .ok a → NoFault (g a)) : NoFault (x >>= g) := by
  cases x with
  | ok a => exact hg a rfl
  | error e => exact ⟨fun f h => hx.ne_fault f (by cases h; rfl)⟩

theorem NoFault.map {x : Except Stop α} (g : α → β) (hx : NoFault x) : NoFault (x.map g) := by
  cases x with
  | ok a => exact .ok _
  | error e => exact ⟨fun f h => hx.ne_fault f (by cases h; rfl)⟩

end

/-! ### Second-level checks leave the guest or pass (50 R500 to R516) -/

theorem sppWrite_noFault (s : State) (e : EptEntry) (spp crosses : Bool) (la : Word64) (gpa n : Nat) :
    NoFault (sppWrite s e spp crosses la gpa n) := by
  unfold sppWrite
  split
  · split
    · split
      · exact .ok _
      · exact .exit _
    · exact .exit _
    · exact .exit _
  · exact .exit _

theorem eptChunk_noFault (s : State) (k : AccessKind) (weak crosses : Bool) (la : Word64) (gpa n : Nat) :
    NoFault (eptChunk s k weak crosses la gpa n) := by
  have violation {α : Type} : NoFault (.error (eptViolation s la gpa) : Except Stop α) := .exit _
  unfold eptChunk
  split
  · exact violation
  · dsimp only
    split
    · exact .exit _
    · split
      · exact violation
      · split
        · split
          · exact violation
          · exact .ok _
        · split
          · split
            · exact violation
            · exact .exit _
          · split
            · split
              · exact .map _ (sppWrite_noFault ..)
              · exact .map _ (sppWrite_noFault ..)
            · split
              · split
                · exact .exit _
                · exact .ok _
              · exact .ok _

theorem AfterChecks.enclaveMode {s t : State} (h : AfterChecks s t) : t.vmx.enclaveMode = s.vmx.enclaveMode := by
  rw [h.vmx]

/-- Outside an enclave no access is one of an enclave, so the EPC is not looked at (50 R515). -/
theorem enclaveCheck_ok {s : State} (h : s.vmx.enclaveMode = false) (k : AccessKind) (la : Word64) (pa : Nat) :
    enclaveCheck s k la pa = .ok () := by simp [enclaveCheck, State.enclaveAccess, h]

theorem secondLevel_noFault {s : State} (h : s.vmx.enclaveMode = false) (k : AccessKind) (weak crosses : Bool)
    (la : Word64) (gpa n : Nat) : NoFault (secondLevel s k weak crosses la gpa n) := by
  unfold secondLevel
  split
  · refine .bind (eptChunk_noFault ..) fun a ha => ?_
    have outside : a.2.vmx.enclaveMode = false := (eptChunk_spec ha).enclaveMode.trans h
    exact .bind (by rw [enclaveCheck_ok outside]; exact .ok _) fun _ _ => .ok _
  · exact .ok _

/-- Two second-level checks one after the other. -/
theorem secondLevel_twice_noFault {α : Type} {s : State} (h : s.vmx.enclaveMode = false) (k : AccessKind)
    (weak crosses weak' crosses' : Bool) (la la' : Word64) (gpa gpa' n n' : Nat) (g : Nat × State → Nat × State → α) :
    NoFault (do
      let a ← secondLevel s k weak crosses la gpa n
      let b ← secondLevel a.2 k weak' crosses' la' gpa' n'
      pure (g a b)) :=
  .bind (secondLevel_noFault h ..) fun _ ha =>
    .bind (secondLevel_noFault ((secondLevel_spec ha).enclaveMode.trans h) ..) fun _ _ => .ok _

theorem eptAll_noFault {s : State} (h : s.vmx.enclaveMode = false) (k : AccessKind) (weak : Bool)
    (ts : List (Word64 × Nat × Nat)) : NoFault (eptAll s k weak ts) := by
  match ts with
  | [] => exact .ok _
  | [c] => exact .bind (secondLevel_noFault h ..) fun _ _ => .ok _
  | c :: d :: _ =>
    simp only [eptAll]
    split
    · exact secondLevel_twice_noFault (s := s.drawn) h ..
    · refine secondLevel_twice_noFault ?_ ..
      split
      · exact h
      · exact h

/-! ### The checks of a plain and of a locked write -/

/-- The checks that a plain and a locked write share before the second level: address form and translation (R104). -/
def writeTranslated (s : State) (seg : Seg) (off : Word64) (n : Nat) :
    Except Stop (List (Word64 × Nat × Nat) × State) :=
  match formFault s Access.store seg off n with
  | some e => .error (raise s e)
  | none => translateAll s .write (pageChunks s (linearAddress s seg off) n)

/-- A plain write goes on to the second level. -/
theorem locate_store (s : State) (seg : Seg) (off : Word64) (n : Nat) : locate s Access.store seg off n =
    writeTranslated s seg off n >>= fun x => eptAll x.2 .write (decide (x.1.length > 1)) x.1 := by
  unfold locate writeTranslated
  dsimp only
  cases formFault s Access.store seg off n with
  | some e => rfl
  | none =>
    simp only [show Access.store.gpAlign = 1 from rfl, show Access.store.acAlign = 1 from rfl,
      show Access.store.locked = false from rfl, Nat.mod_one, decide_true, Bool.or_true, Bool.false_and, Bool.not_false,
      check_true, ok_bind]
    rfl

/-- A locked write is first checked for a split lock (53 R591). -/
theorem locate_lockedWrite (s : State) (seg : Seg) (off : Word64) (n : Nat) : locate s Access.lockedWrite seg off n =
    writeTranslated s seg off n >>= fun x => check s (!splitLockFaults s (linearAddress s seg off) n) .ac >>= fun _ =>
      eptAll x.2 .write (decide (x.1.length > 1)) x.1 := by
  unfold locate writeTranslated
  dsimp only
  rw [show formFault s Access.lockedWrite seg off n = formFault s Access.store seg off n from rfl]
  cases formFault s Access.store seg off n with
  | some e => rfl
  | none =>
    simp only [show Access.lockedWrite.gpAlign = 1 from rfl, show Access.lockedWrite.acAlign = 1 from rfl,
      show Access.lockedWrite.locked = true from rfl, Nat.mod_one, decide_true, Bool.or_true, Bool.true_and,
      check_true, ok_bind]
    rfl

section
variable {s u : State} {seg : Seg} {off : Word64} {n : Nat} {pas : List Nat}

/-- Without a split lock a locked write is located as a plain one. -/
theorem locate_lockedWrite_of_not_split (h : splitLockFaults s (linearAddress s seg off) n = false) :
    locate s Access.lockedWrite seg off n = locate s Access.store seg off n := by
  simp only [locate_lockedWrite, locate_store, h, Bool.not_false, check_true, ok_bind]

/-- A split lock stops a write that passes the other checks. -/
theorem locate_lockedWrite_of_split (h : splitLockFaults s (linearAddress s seg off) n = true)
    (hloc : locate s Access.store seg off n = .ok (pas, u)) :
    locate s Access.lockedWrite seg off n = .error (raise s .ac) := by
  rw [locate_store] at hloc
  obtain ⟨x, hx, -⟩ := bind_ok hloc
  simp only [locate_lockedWrite, hx, h, ok_bind, Bool.not_true, check_false, error_bind]

/-- A fault of a plain write stands, split lock or not (D51). -/
theorem locate_lockedWrite_of_fault {f : Fault} (henc : s.vmx.enclaveMode = false)
    (hloc : locate s Access.store seg off n = .error (.fault f)) :
    locate s Access.lockedWrite seg off n = .error (.fault f) := by
  rw [locate_store] at hloc
  cases hx : writeTranslated s seg off n with
  | error e =>
    rw [hx] at hloc
    rw [locate_lockedWrite, hx]
    exact hloc
  | ok x =>
    have checked : AfterChecks s x.2 := by
      unfold writeTranslated at hx
      split at hx
      · cases hx
      · exact (translateAll_spec hx).1
    rw [hx] at hloc
    exact absurd hloc ((eptAll_noFault (checked.enclaveMode.trans henc) .write _ x.1).ne_fault f)

end

/-! ### The access as an input -/

section
variable {s u : State} {seg : Seg} {off : Word64} {bytes : List Byte} {pas : List Nat}

theorem lockedAccess_of_error {f : Fault} (h : locate s Access.lockedWrite seg off bytes.length = .error (.fault f)) :
    lockedAccess s seg off bytes = .fault f := by
  rw [lockedAccess, writeMem_of_locate_error h]
  rfl

/-- A locked access that passes its checks stores as a plain write would (53 R592). -/
theorem lockedAccess_next (h : locate s Access.lockedWrite seg off bytes.length = .ok (pas, u)) :
    ∃ t, lockedAccess s seg off bytes = .next t ∧ SameGprs s t ∧ SameMemoryBut pas s t ∧
      (pas.Nodup → ∀ i, i < bytes.length → t.byte (pas.getD i 0) = bytes.getD i 0#8) := by
  obtain ⟨checked, hlen, -⟩ := locate_spec h
  obtain ⟨hmem, -, hgprs, -⟩ := frameStore_storeOwn checked pas bytes hlen
  refine ⟨(u.storeOwn (pas.zip bytes)).softwareRan, by rw [lockedAccess, writeMem_of_locate h]; rfl, hgprs, hmem,
    fun hd i hi => ?_⟩
  rw [State.byte_softwareRan]
  exact u.byte_storeOwn_zip hlen hd hi

end

theorem State.tick_msr (s : State) : s.tick.msr = s.msr := by simp [State.tick]
theorem State.tick_vmx (s : State) : s.tick.vmx = s.vmx := by simp [State.tick]

theorem splitLockFaults_eq_true_iff {s : State} (hf : s.cfg.features.splitLock = true) (la : Word64) (n : Nat) :
    splitLockFaults s la n = true ↔ s.msr.testCtl.getLsbD 29 = true ∧
      la.toNat / s.cfg.clflushLine ≠ (la.toNat + n - 1) / s.cfg.clflushLine := by
  simp [splitLockFaults, splitsLine, hf]

/-- Settles O60 (the model's own test has the name `splitLockFaults`). -/
theorem splitLocksFault : Obligations.SplitLockFaults := by
  intro s seg off bytes rest hf s0 v la split
  have cfg : v.cfg = s.cfg := State.tick_cfg s0
  have flags : v.rflags = s.rflags := State.tick_rflags s0
  have sys : v.sys = s.sys := State.tick_sys s0
  have msr : v.msr = s.msr := State.tick_msr s0
  have gprs : SameGprs s v := State.gpr64_congr (State.tick_gpr s0)
  have mem : SameMemory s v := fun a => by simp only [State.byte, v, State.tick_mem, s0]
  have splits : splitLockFaults v (linearAddress v seg off) bytes.length = true ↔
      s.msr.testCtl.getLsbD 29 = true ∧ split := by
    rw [linearAddress_congr sys flags, splitLockFaults_eq_true_iff (by rwa [cfg]), cfg, msr]
  have run : step s0 = lockedAccess v seg off bytes := rfl
  rw [run]
  refine ⟨fun pas u hloc => ⟨fun hbit hsplit => ?_, fun hnot => ?_⟩, fun f henc hloc => ?_⟩
  · rw [lockedAccess_of_error (locate_lockedWrite_of_split (splits.mpr ⟨hbit, hsplit⟩) hloc), errorCode,
      State.mode_congr sys flags]
  · have single : splitLockFaults v (linearAddress v seg off) bytes.length = false := by
      rw [Bool.eq_false_iff, ne_eq, splits]
      rintro ⟨hbit, hsplit⟩
      rcases hnot with h | h
      · exact Bool.false_ne_true (h.symm.trans hbit)
      · exact h hsplit
    obtain ⟨t, hnext, hgprs, hmem, hbytes⟩ :=
      lockedAccess_next ((locate_lockedWrite_of_not_split single).trans hloc)
    exact ⟨t, hnext, fun r => (hgprs r).trans (gprs r), fun a ha => (hmem a ha).trans (mem a), hbytes⟩
  · have outside : v.vmx.enclaveMode = false := by
      rw [show v.vmx = s.vmx from State.tick_vmx s0]
      exact henc
    exact lockedAccess_of_error (locate_lockedWrite_of_fault outside hloc)

end Sys2Proof.Machine
end

section
/-! The decoder reads back every well-formed instruction (30_encoding.md R164 to R174, R190), and MOVDIR64B copies 64 bytes
(42_cldemote_movdir_wbnoinvd.md R333, R334; 30_encoding.md R195, R196). -/

namespace Sys2Proof

/-- Settles O1: every view of a well-formed instruction is legal, a legal view is parsed back from what it emits, and it
selects the row it came from. -/
theorem decodeOfEncode : Obligations.DecodeOfEncode :=
  fun _ _ rest h => decode_encode_append h rest

end Sys2Proof

namespace Sys2Proof.Machine

/-! ### MOVDIR64B -/

/-- Where every check passes, the bytes read from the source stand at the destination (R334). -/
theorem execMovdir64b_next {p : Pfx} {x : GReg} {m : Mem} {s v u : State} {bs : List Byte} {pas : List Nat}
    (hp : p.forbidden = false) (hf : s.cfg.features.movdir64b = true)
    (hread : readMem s Access.load (memSeg s p m) (memOff s p 1 m) 64 = .ok (bs, v))
    (hloc : locate v Access.direct64 .es (s.gprAddr (s.addrSize p) x) 64 = .ok (pas, u)) :
    ∃ t, execMovdir64b p x m s = .next t ∧ FrameStore pas s t ∧
      (pas.Nodup → ∀ i, i < 64 → t.byte (pas.getD i 0) = bs.getD i 0#8) := by
  obtain ⟨readChecked, hbs, -⟩ := readMem_spec hread
  obtain ⟨storeChecked, hpas, -⟩ := locate_spec hloc
  have hl : pas.length = bs.length := hpas.trans hbs.symm
  have written : writeMem v Access.direct64 .es (s.gprAddr (s.addrSize p) x) bs = .ok (u.storeOwn (pas.zip bs)) :=
    writeMem_of_locate (by rwa [hbs])
  refine ⟨(u.storeOwn (pas.zip bs)).complete, ?_, frameStore_storeOwn (readChecked.trans storeChecked) pas bs hl,
    fun hd i hi => ?_⟩
  · simp only [execMovdir64b, hp, hf, Bool.not_false, Bool.true_and, check_true, hread, written, ok_bind]
    rfl
  · rw [State.byte_complete]
    exact u.byte_storeOwn_zip hl hd (by rwa [hbs])

/-- LOCK or the feature's absence is seen before either memory operand is (60_exceptions.md R606). -/
theorem execMovdir64b_ud {p : Pfx} {x : GReg} {m : Mem} {s : State}
    (h : p.forbidden = true ∨ s.cfg.features.movdir64b = false) : execMovdir64b p x m s = .fault .undefinedOpcode :=
  finish_check_ud (by rcases h with h | h <;> simp [h])

/-- The bytes of MOVDIR64B with a register source are #UD (30_encoding.md R195, D33). -/
theorem buildLegacy_movdir64b_undefined {p : Prefixes} (w : Bool) (x : GReg) (r : VReg) (imm : Option Byte)
    (h66 : p.p66 = true) (h2 : p.f2 = false) (h3 : p.f3 = false) :
    buildLegacy p w 2#2 0xF8#8 x (.reg r) imm = .undefined := by
  simp [buildLegacy, h66, h2, h3]

/-- No row has this opcode with F2H or F3H (R333; 30_encoding.md R196). -/
theorem buildLegacy_movdir64b_noRow {p : Prefixes} (w : Bool) (x : GReg) (rm : Rm) (imm : Option Byte)
    (h : p.f2 = true ∨ p.f3 = true) : buildLegacy p w 2#2 0xF8#8 x rm imm = .noMatch .noRow := by
  rcases h with h | h <;> simp [buildLegacy, h]

/-- Settles O44. -/
theorem movdir64bCopies : Obligations.Movdir64bCopies :=
  ⟨fun _ _ _ _ => ⟨fun _ _ _ _ => execMovdir64b_next, execMovdir64b_ud⟩,
    fun _ w x r imm => buildLegacy_movdir64b_undefined w x r imm,
    fun _ w x rm imm => buildLegacy_movdir64b_noRow w x rm imm⟩

end Sys2Proof.Machine
end

section
/-! CPUID: what the instruction writes (40_cpuid_instruction.md R222, R227, R228), which leaf answers (R224, R226), and what
the leaves with feature bits report (R232, R236; 41_cpuid_leaves.md R250, R253, R266). -/

namespace Sys2Proof.Machine

/-! ### The instruction -/

section
variable (s : State) (o : CpuidOut)

@[simp] theorem State.gpr64_setCpuid_rax : (s.setCpuid o).gpr64 rax = o.eax.setWidth 64 := by
  simp [State.setCpuid, State.gpr64_setGpr64, rax, rbx, rcx, rdx]
@[simp] theorem State.gpr64_setCpuid_rbx : (s.setCpuid o).gpr64 rbx = o.ebx.setWidth 64 := by
  simp [State.setCpuid, State.gpr64_setGpr64, rbx, rcx, rdx]
@[simp] theorem State.gpr64_setCpuid_rcx : (s.setCpuid o).gpr64 rcx = o.ecx.setWidth 64 := by
  simp [State.setCpuid, State.gpr64_setGpr64, rcx, rdx]
@[simp] theorem State.gpr64_setCpuid_rdx : (s.setCpuid o).gpr64 rdx = o.edx.setWidth 64 := by
  simp [State.setCpuid]

theorem State.setCpuid_sameSystem : SameSystem s (s.setCpuid o) := ⟨rfl, rfl, rfl, rfl, rfl, rfl, rfl⟩

end

theorem exec_cpuid (p : Pfx) (s : State) : exec (.cpuid p) s = execCpuid p s := rfl

/-- Without LOCK, CPUID completes in every mode (R223). -/
theorem execCpuid_next {p : Pfx} (h : p.forbidden = false) (s : State) : execCpuid p s =
    .next (s.loadBiosSign.setCpuid (cpuidAnswer s (s.gpr32 rax) (s.gpr32 rcx))).serialize.complete := by
  rw [execCpuid, h]
  rfl

/-- The low half of IA32_BIOS_SIGN_ID stays (R228). -/
theorem State.loadBiosSign_msr_low (s : State) : s.loadBiosSign.msr =
    { s.msr with biosSignId := s.cfg.microcodeRevision ++ s.msr.biosSignId.extractLsb' 0 32 } := by
  rw [State.loadBiosSign_msr, BitVec.setWidth_eq_extractLsb' (by decide)]

/-- Settles O46: the four outputs are read back, and no other part of the completed state is written but those named. -/
theorem cpuidResult : Obligations.CpuidResult := by
  intro p s h o
  have others (x : GReg) (ha : x ≠ rax) (hb : x ≠ rbx) (hc : x ≠ rcx) (hd : x ≠ rdx) :
      (s.loadBiosSign.setCpuid o).gpr64 x = s.gpr64 x :=
    s.loadBiosSign.setCpuid_gpr64_of_ne o (by simp [ha, hb, hc, hd])
  exact ⟨(s.loadBiosSign.setCpuid o).serialize.complete, (exec_cpuid p s).trans (execCpuid_next h s), by simp, by simp,
    by simp, by simp, others, s.loadBiosSign_msr_low, fun _ => rfl, fun _ => rfl, rfl, fun _ => rfl, rfl, rfl, rfl,
    s.loadBiosSign.setCpuid_sameSystem o, rfl, rfl⟩

/-! ### Which leaf answers -/

theorem cpuidMaxBasic_toNat (c : Cfg) :
    c.cpuidMaxBasic.toNat = max c.highestBasicLeaf.toNat (leastBasicLeaf c.features) := by
  have least : leastBasicLeaf c.features < 2 ^ 32 := by
    unfold leastBasicLeaf
    split_ifs <;> decide
  rw [Cfg.cpuidMaxBasic, BitVec.toNat_ofNat, Nat.mod_eq_of_lt (Nat.max_lt.mpr ⟨BitVec.isLt _, least⟩)]

theorem one_le_leastBasicLeaf (f : Features) : 1 ≤ leastBasicLeaf f := by
  unfold leastBasicLeaf
  split_ifs <;> decide

/-- Leaf 01H is always there, for OSXSAVE (R236). -/
theorem one_le_maxBasic (s : State) : 1 ≤ (maxBasic s).toNat := by
  unfold maxBasic
  split
  · decide
  · rw [cpuidMaxBasic_toNat]
    exact (one_le_leastBasicLeaf _).trans (Nat.le_max_right ..)

section
variable {s : State} {leaf : Word32}

theorem leafRecognized_iff : leafRecognized s leaf = true ↔ leaf.toNat ≤ (maxBasic s).toNat ∨
    0x80000000 ≤ leaf.toNat ∧ leaf.toNat ≤ s.cfg.cpuidMaxExt.toNat := by
  simp [leafRecognized, BitVec.le_def]

theorem cpuidAnswer_of_recognized (h : leafRecognized s leaf = true) (sub : Word32) : cpuidAnswer s leaf sub =
    if 0x80000000#32 ≤ leaf then cpuidExt s (leaf.toNat - 0x80000000) else cpuidBasic s leaf.toNat sub.toNat := by
  simp only [cpuidAnswer, h, if_true]

/-- A basic leaf up to the highest one in force answers as itself. -/
theorem cpuidAnswer_basic (hmax : leaf.toNat ≤ (maxBasic s).toNat) (hbasic : leaf.toNat < 0x80000000) (sub : Word32) :
    cpuidAnswer s leaf sub = cpuidBasic s leaf.toNat sub.toNat := by
  rw [cpuidAnswer_of_recognized (leafRecognized_iff.mpr (.inl hmax)), if_neg]
  exact Nat.not_le.mpr hbasic

/-- So does an extended leaf up to the highest one. -/
theorem cpuidAnswer_ext (hmax : leaf.toNat ≤ s.cfg.cpuidMaxExt.toNat) (hext : 0x80000000 ≤ leaf.toNat) (sub : Word32) :
    cpuidAnswer s leaf sub = cpuidExt s (leaf.toNat - 0x80000000) := by
  rw [cpuidAnswer_of_recognized (leafRecognized_iff.mpr (.inr ⟨hext, hmax⟩)), if_pos]
  exact hext

/-- A leaf above every one in force answers as the highest basic leaf, which is itself recognized (R224). -/
theorem cpuidAnswer_unrecognized (hbasic : (maxBasic s).toNat < leaf.toNat)
    (hext : leaf.toNat < 0x80000000 ∨ s.cfg.cpuidMaxExt.toNat < leaf.toNat) (sub : Word32) :
    cpuidAnswer s leaf sub = cpuidAnswer s (maxBasic s) sub := by
  have unrecognized : leafRecognized s leaf = false := by
    rw [Bool.eq_false_iff, ne_eq, leafRecognized_iff]
    omega
  simp only [cpuidAnswer, unrecognized, Bool.false_eq_true, if_false, ite_self]

end

section
variable (s : State) (sub : Word32)

theorem cpuidAnswer_leaf00 : cpuidAnswer s 0#32 sub = leaf00 s :=
  cpuidAnswer_basic (leaf := 0#32) (Nat.zero_le _) (by decide) sub

theorem cpuidAnswer_leaf01 : cpuidAnswer s 1#32 sub = leaf01 s :=
  cpuidAnswer_basic (leaf := 1#32) (one_le_maxBasic s) (by decide) sub

theorem cpuidAnswer_leaf06 (h : 6 ≤ (maxBasic s).toNat) : cpuidAnswer s 6#32 sub = leaf06 s :=
  cpuidAnswer_basic (leaf := 6#32) h (by decide) sub

theorem cpuidAnswer_leaf07 (h : 7 ≤ (maxBasic s).toNat) : cpuidAnswer s 7#32 sub = leaf07 s sub.toNat :=
  cpuidAnswer_basic (leaf := 7#32) h (by decide) sub

theorem cpuidAnswer_leafExt8 (h : 0x80000008 ≤ s.cfg.cpuidMaxExt.toNat) :
    cpuidAnswer s 0x80000008#32 sub = leafExt8 s := by
  have number : (0x80000008#32).toNat - 0x80000000 = 8 := by simp
  rw [cpuidAnswer_ext (leaf := 0x80000008#32) h (by decide), number]
  rfl

end

/-! ### The bits a leaf computes -/

theorem getLsbD_withBits_of_not_mem {l : List (Nat × Bool)} (v : Word32) (hplaces : ∀ p ∈ l, p.1 < 32) {n : Nat}
    (hn : n ∉ l.map Prod.fst) : (withBits v l).getLsbD n = v.getLsbD n := by
  induction l generalizing v with
  | nil => rfl
  | cons p l ih =>
    rw [List.map_cons, List.mem_cons, not_or] at hn
    obtain ⟨hne, hrest⟩ := hn
    obtain ⟨place, places⟩ := List.forall_mem_cons.mp hplaces
    calc (withBits (withBit v p.1 p.2) l).getLsbD n = (withBit v p.1 p.2).getLsbD n := ih _ places hrest
      _ = v.getLsbD n := by rw [getLsbD_withBit _ _ _ _ place, if_neg hne]

/-- Bits replaced at distinct places have their new values. -/
theorem getLsbD_withBits {l : List (Nat × Bool)} (v : Word32) (hplaces : ∀ p ∈ l, p.1 < 32)
    (hdistinct : (l.map Prod.fst).Nodup) : ∀ p ∈ l, (withBits v l).getLsbD p.1 = p.2 := by
  induction l generalizing v with
  | nil => exact fun p hp => absurd hp List.not_mem_nil
  | cons q l ih =>
    rw [List.map_cons, List.nodup_cons] at hdistinct
    obtain ⟨hfirst, hrest⟩ := hdistinct
    obtain ⟨place, places⟩ := List.forall_mem_cons.mp hplaces
    refine List.forall_mem_cons.mpr ⟨?_, ih _ places hrest⟩
    calc (withBits (withBit v q.1 q.2) l).getLsbD q.1 = (withBit v q.1 q.2).getLsbD q.1 :=
          getLsbD_withBits_of_not_mem _ places hfirst
      _ = q.2 := by rw [getLsbD_withBit _ _ _ _ place, if_pos rfl]

/-- A byte put at bits 15:8, which the mask keeps clear, is read back there. -/
theorem extractLsb'_or_byte1 (v mask : Word32) (hmask : mask.extractLsb' 8 8 = 0#8) {n : Nat} (hn : n < 256) :
    (((v &&& mask) ||| BitVec.ofNat 32 (n * 256)).extractLsb' 8 8).toNat = n := by
  have clear : (v &&& mask).extractLsb' 8 8 = 0#8 := by rw [BitVec.extractLsb'_and, hmask, BitVec.and_zero]
  rw [BitVec.extractLsb'_or, clear, BitVec.zero_or, BitVec.extractLsb'_toNat, BitVec.toNat_ofNat,
    Nat.shiftRight_eq_div_pow]
  omega

/-! ### The leaves with feature bits: the places they compute, each with its value -/

section
variable (s : State)

theorem leaf01_ecx_bits : let listed := (cpuidTable s.cfg 1 0).ecx &&& 0x7FFEFFFF#32
    ∀ p ∈ [(26, listed.getLsbD 26 || xsaveImplied s), (27, bit s.sys.cr4 18), (28, s.cfg.features.avx)],
      (leaf01 s).ecx.getLsbD p.1 = p.2 :=
  getLsbD_withBits _ (by simp) (by simp)

theorem leaf01_edx_bits : ∀ p ∈ [(25, s.cfg.features.sse)], (leaf01 s).edx.getLsbD p.1 = p.2 :=
  getLsbD_withBits _ (by simp) (by simp)

/-- The CLFLUSH field is the line in units of 8 bytes (41_cpuid_leaves.md R253), whether or not the brand index beside it
is masked (R301). -/
theorem leaf01_ebx_clflush : ((leaf01 s).ebx.extractLsb' 8 8).toNat * 8 = s.cfg.clflushLine := by
  obtain ⟨whole, -, small⟩ := clflushLine_spec s.cfg
  have field : ((leaf01 s).ebx.extractLsb' 8 8).toNat = s.cfg.clflushLine / 8 :=
    extractLsb'_or_byte1 _ _ (by split <;> decide) small
  rw [field, Nat.mul_comm, whole]

theorem leaf06_eax_bits : ∀ p ∈ [(19, s.cfg.features.hfi)], (leaf06 s).eax.getLsbD p.1 = p.2 :=
  getLsbD_withBits _ (by simp) (by simp)

theorem leaf07_ebx_bits : ∀ p ∈ [(16, s.cfg.features.avx512f), (30, s.cfg.features.avx512bw),
    (31, s.cfg.features.avx512vl)], (leaf07 s 0).ebx.getLsbD p.1 = p.2 :=
  getLsbD_withBits _ (by simp) (by simp)

theorem leaf07_ecx_bits : let f := s.cfg.features
    ∀ p ∈ [(4, bit s.sys.cr4 22), (5, f.waitpkg), (6, f.vbmi2), (8, f.gfni), (9, f.vaes), (10, f.vpclmulqdq),
      (11, f.vnni), (12, f.bitalg), (14, f.vpopcntdq), (25, f.cldemote), (27, f.movdiri), (28, f.movdir64b)],
      (leaf07 s 0).ecx.getLsbD p.1 = p.2 :=
  getLsbD_withBits _ (by simp) (by simp)

theorem leaf07_edx_bits : ∀ p ∈ [(18, s.cfg.features.pconfig)], (leaf07 s 0).edx.getLsbD p.1 = p.2 :=
  getLsbD_withBits _ (by simp) (by simp)

theorem leafExt8_ebx_wbnoinvd : (leafExt8 s).ebx.getLsbD 9 = s.cfg.features.wbnoinvd :=
  (getLsbD_withBit _ _ _ _ (by decide)).trans (if_pos rfl)

/-- CR4.OSXSAVE, AVX and AVX512F each imply XSAVE (40_cpuid_instruction.md R232). -/
theorem xsaveImplied_iff : xsaveImplied s = true ↔
    s.sys.cr4.getLsbD 18 = true ∨ s.cfg.features.avx512f = true ∨ s.cfg.features.avx = true := by
  simp [xsaveImplied, bit, or_assoc]

end

/-- Settles O47: an answered leaf is the model's leaf, and that leaf's computed places are read off it. -/
theorem cpuidLeaves : Obligations.CpuidLeaves := by
  intro s sub
  refine ⟨cpuidAnswer_leaf00 s sub, fun leaf hbasic hext => cpuidAnswer_unrecognized hbasic hext sub, ?_, fun h => ?_,
    fun h => ?_, fun h => ?_⟩
  · have ecx := leaf01_ecx_bits s
    simp only [List.forall_mem_cons] at ecx
    obtain ⟨xsave, osxsave, avx, -⟩ := ecx
    have reported (h : xsaveImplied s = true) : (leaf01 s).ecx.getLsbD 26 = true :=
      xsave.trans (by rw [h, Bool.or_true])
    rw [cpuidAnswer_leaf01]
    exact ⟨osxsave, fun h => reported ((xsaveImplied_iff s).mpr (.inl (osxsave.symm.trans h))),
      fun h => reported ((xsaveImplied_iff s).mpr (.inr h)), avx, leaf01_edx_bits s _ List.mem_cons_self,
      leaf01_ebx_clflush s⟩
  · rw [cpuidAnswer_leaf06 s sub h]
    exact leaf06_eax_bits s _ List.mem_cons_self
  · have ebx := leaf07_ebx_bits s
    have ecx := leaf07_ecx_bits s
    simp only [List.forall_mem_cons] at ebx ecx
    obtain ⟨avx512f, avx512bw, avx512vl, -⟩ := ebx
    obtain ⟨-, waitpkg, vbmi2, gfni, vaes, vpclmulqdq, vnni, bitalg, vpopcntdq, cldemote, movdiri, movdir64b, -⟩ := ecx
    rw [cpuidAnswer_leaf07 s 0#32 h]
    exact ⟨avx512f, avx512bw, avx512vl, waitpkg, vbmi2, gfni, vaes, vpclmulqdq, vnni, bitalg, vpopcntdq, cldemote, movdiri,
      movdir64b, leaf07_edx_bits s _ List.mem_cons_self⟩
  · rw [cpuidAnswer_leafExt8 s sub h]
    exact leafExt8_ebx_wbnoinvd s

end Sys2Proof.Machine
end

section
/-! UMONITOR: its bytes with a memory operand are #UD (45_waitpkg.md R390; 30_encoding.md R195), and its meaning arms the
monitored block or faults on the address (R382, R384, R390). -/

namespace Sys2Proof

/-! ### Enough bytes for a memory operand -/

theorem takeBytes_isSome {n : Nat} {bs : List Byte} (h : n ≤ bs.length) : (takeBytes n bs).isSome = true := by
  obtain ⟨f, r, rfl, rfl⟩ : ∃ f r, bs = f ++ r ∧ n = f.length :=
    ⟨bs.take n, bs.drop n, (List.take_append_drop n bs).symm, (List.length_take_of_le h).symm⟩
  rw [takeBytes_append]
  rfl

theorem takeDisp_isSome {mod : BitVec 2} {big : List Byte → Option (Disp × List Byte)} {bs : List Byte}
    (h : 1 ≤ bs.length) (hbig : (big bs).isSome = true) : (takeDisp mod big bs).isSome = true := by
  unfold takeDisp
  split
  · rfl
  · split
    · simpa [takeD8] using takeBytes_isSome h
    · exact hbig

/-- No memory operand takes more than five bytes after ModRM: SIB and four of displacement (R166). -/
theorem takeMem_isSome (asz : AddrSize) (mod : BitVec 2) (rm : BitVec 3) (x b : Bool) {bs : List Byte}
    (h : 5 ≤ bs.length) : (takeMem asz mod rm x b bs).isSome = true := by
  have d16 : (takeD16 bs).isSome = true := by simpa [takeD16] using takeBytes_isSome (n := 2) (by omega)
  have d32 {l : List Byte} (hl : 4 ≤ l.length) : (takeD32 l).isSome = true := by
    simpa [takeD32] using takeBytes_isSome hl
  unfold takeMem
  split
  · split
    · simpa using takeBytes_isSome (n := 2) (by omega)
    · simpa using takeDisp_isSome (by omega) d16
  · split
    · cases bs with
      | nil => cases h
      | cons sib bs =>
        have after : 4 ≤ bs.length := by simpa using h
        dsimp only
        split
        · simpa using d32 after
        · simpa using takeDisp_isSome (by omega) (d32 after)
    · split
      · simpa using takeBytes_isSome (n := 4) (by omega)
      · simpa using takeDisp_isSome (by omega) (d32 (by omega))

/-- A ModRM byte whose `mod` is not 11b, with five bytes after it, is read as a memory operand. -/
theorem takeModRM_mem (asz : AddrSize) (y x b : Bool) {modrm : Byte} {bs : List Byte}
    (hmod : modrm.extractLsb' 6 2 ≠ 3#2) (h : 5 ≤ bs.length) :
    ∃ o r, takeModRM asz y x b (modrm :: bs) = some (modrm.extractLsb' 3 3, .mem o, r) := by
  obtain ⟨⟨o, r⟩, read⟩ := Option.isSome_iff_exists.mp
    (takeMem_isSome asz (modrm.extractLsb' 6 2) (modrm.extractLsb' 0 3) x b h)
  exact ⟨o, r, by simp only [takeModRM, if_neg hmod, read, Option.map_some]⟩

/-! ### The bytes of UMONITOR with a memory operand -/

/-- The prefixes of UMONITOR: F3H alone. -/
def Prefixes.onlyF3 : Prefixes := { Prefixes.none with f3 := true }

/-- `F3 0F AE` with a memory operand is cut into its fields in every mode. -/
theorem parse_f3_0fae_mem (m : DecodeMode) {modrm : Byte} {rest : List Byte} (hmod : modrm.extractLsb' 6 2 ≠ 3#2)
    (h : 5 ≤ rest.length) :
    ∃ o r, parse m (0xF3#8 :: 0x0F#8 :: 0xAE#8 :: modrm :: rest) =
      .view (.legacy .onlyF3 false 1#2 0xAE#8 (reg4 false (modrm.extractLsb' 3 3)) (.mem o) Option.none) r := by
  obtain ⟨o, r, read⟩ := takeModRM_mem (addrSize m false) false false false hmod h
  refine ⟨o, r, ?_⟩
  calc parse m (0xF3#8 :: 0x0F#8 :: 0xAE#8 :: modrm :: rest)
      _ = parseOpcode m .onlyF3 Option.none (0x0F#8 :: 0xAE#8 :: modrm :: rest) :=
        parse_noRex m .onlyF3 opensOpcode_escape (0xAE#8 :: modrm :: rest)
      _ = parseLegacy m .onlyF3 Rex.none 1#2 (0xAE#8 :: modrm :: rest) :=
        parseOpcode_escape m .onlyF3 Option.none (map := 1#2) (by decide) (fun _ => by decide) (modrm :: rest)
      _ = _ := by simp [parseLegacy, bareOps, legacyOps, Prefixes.onlyF3, Prefixes.none, Rex.none, read, takeImm]

/-- The memory form of `0F AE /6` under F3H alone is #UD (30_encoding.md R195). -/
theorem buildAE_f3_mem {p : Prefixes} (h66 : p.p66 = false) (h3 : p.f3 = true) (h2 : p.f2 = false) {x : GReg}
    (hx : x &&& 7#4 = 6#4) (o : Mem) : buildAE p x (.mem o) = .undefined := by
  simp [buildAE, hx, h66, h3, h2]

theorem buildLegacy_0fae (p : Prefixes) (w : Bool) (x : GReg) (rm : Rm) (imm : Option Byte) :
    buildLegacy p w 1#2 0xAE#8 x rm imm = buildAE p x rm := rfl

/-- UMONITOR's bytes with a memory operand are #UD in every mode (45_waitpkg.md R390). -/
theorem decode_umonitor_mem (m : DecodeMode) {modrm : Byte} {rest : List Byte} (hmod : modrm.extractLsb' 6 2 ≠ 3#2)
    (hreg : modrm.extractLsb' 3 3 = 6#3) (h : 5 ≤ rest.length) :
    decode m (0xF3#8 :: 0x0F#8 :: 0xAE#8 :: modrm :: rest) = .undefined := by
  obtain ⟨o, r, cut⟩ := parse_f3_0fae_mem m hmod h
  have slash6 : reg4 false (modrm.extractLsb' 3 3) &&& 7#4 = 6#4 := by rw [hreg]; decide
  simp only [decode, cut, build, buildLegacy_0fae, buildAE_f3_mem (p := .onlyF3) rfl rfl rfl slash6]

end Sys2Proof

namespace Sys2Proof.Machine

/-! ### Addresses that are not canonical -/

/-- The exception of an address through a segment in 64-bit mode: #SS for SS, else #GP (20_memory.md R105). -/
def segmentExc (seg : Seg) : Exc := if seg = .ss then .ss else .gp

/-- The first byte of an access decides where its address is not canonical (R105). -/
theorem formFault_of_not_canonical {s : State} {seg : Seg} {off : Word64} {n : Nat} (hm : s.mode = .long) (hn : 0 < n)
    (hc : canonical s.cfg.linAddrBits (linearAddress s seg off) = false) (a : Access) :
    formFault s a seg off n = some (segmentExc seg) := by
  have illegal : ¬ ((List.range n).all fun i =>
      canonical s.cfg.linAddrBits (linearAddress s seg off + BitVec.ofNat 64 i)) = true := fun h => by
    have first := List.all_eq_true.mp h 0 (List.mem_range.mpr hn)
    simp [hc] at first
  simp only [formFault, hm, if_neg illegal]
  rfl

/-- Such an access raises its segment's exception, with error code 0, before any other check (R104). -/
theorem locate_of_not_canonical {s : State} {seg : Seg} {off : Word64} {n : Nat} (hm : s.mode = .long) (hn : 0 < n)
    (hc : canonical s.cfg.linAddrBits (linearAddress s seg off) = false) (a : Access) :
    locate s a seg off n = .error (.fault (.exception (segmentExc seg) (some 0#32) none)) := by
  have code : errorCode s (segmentExc seg) = some 0#32 := by
    unfold segmentExc
    split <;> simp [errorCode, hm]
  simp only [locate, formFault_of_not_canonical hm hn hc, raise, code]

/-! ### UMONITOR -/

theorem AfterChecks.opmask {s t : State} (h : AfterChecks s t) (r : KReg) : t.opmask r = s.opmask r := by
  simp only [State.opmask, h.k]

/-- A completed UMONITOR leaves all but the monitor and RIP as the checks of its address did. -/
theorem frame_arm {s u : State} (h : AfterChecks s u) (pa : Nat) :
    let t := (u.arm pa).complete
    SameGprs s t ∧ SameVecs s t ∧ SameMasks s t ∧ t.rflags = s.rflags ∧ SameMemory s t ∧ t.msr = s.msr ∧
      t.tsc = s.tsc ∧ t.keyTable = s.keyTable ∧ SameSystem s t ∧ t.rip = s.nextRip :=
  ⟨State.gpr64_congr h.gpr, h.vec, h.opmask, h.rflags, h.byte, h.msr, h.tsc, h.keyTable, h.sameSystem, h.nextRip⟩

theorem exec_umonitor (p : Pfx) (r : GReg) (s : State) : exec (.umonitor p r) s = execUmonitor p r s := rfl

/-- LOCK or the feature's absence is seen before the address is (60_exceptions.md R606). -/
theorem execUmonitor_ud {p : Pfx} {r : GReg} {s : State} (h : p.forbidden = true ∨ s.cfg.features.waitpkg = false) :
    execUmonitor p r s = .fault .undefinedOpcode :=
  finish_check_ud (by rcases h with h | h <;> simp [waitpkgLegal, h])

section
variable {p : Pfx} {r : GReg} {s : State} (hp : p.forbidden = false) (hf : s.cfg.features.waitpkg = true)
include hp hf

theorem waitpkgLegal_eq_true : waitpkgLegal p s = true := by
  rw [waitpkgLegal, hp, hf]
  rfl

/-- The access passes: the block of the byte is armed, or nothing is (R382, R384). -/
theorem execUmonitor_next {pa : Nat} {pas : List Nat} {u : State}
    (hloc : locate s Access.monitored (effSeg s p .ds) (s.gprAddr (s.addrSize p) r) 1 = .ok (pa :: pas, u)) :
    execUmonitor p r s = .next (u.arm pa).complete ∧
      ((u.arm pa).complete.monitor = some (monitorBlock s pa) ∨ (u.arm pa).complete.monitor = none) := by
  obtain ⟨checked, -⟩ := locate_spec hloc
  have block : monitorBlock u pa = monitorBlock s pa := by rw [monitorBlock, monitorBlock, checked.cfg]
  refine ⟨by simp only [execUmonitor, waitpkgLegal_eq_true hp hf, check_true, ok_bind, hloc]; rfl, ?_⟩
  rw [State.complete_monitor, State.arm_monitor, block]
  exact ite_eq_or_eq ..

/-- The access faults: so does the instruction. -/
theorem execUmonitor_fault {f : Fault}
    (hloc : locate s Access.monitored (effSeg s p .ds) (s.gprAddr (s.addrSize p) r) 1 = .error (.fault f)) :
    execUmonitor p r s = .fault f := by
  simp only [execUmonitor, waitpkgLegal_eq_true hp hf, check_true, ok_bind, hloc, error_bind]
  rfl

end

/-- Settles O53: #UD comes first; then the access of one byte, from which the monitor is armed or the fault comes. -/
theorem umonitorArms : Obligations.UmonitorArms := by
  refine ⟨fun p r s h => ?_, fun m modrm rest => decode_umonitor_mem m, fun p r s hp hf =>
    ⟨fun pa pas u hloc => ?_, fun hm hc => ?_⟩⟩
  · rw [exec_umonitor, execUmonitor_ud h]
  · obtain ⟨next, monitor⟩ := execUmonitor_next hp hf hloc
    exact ⟨(u.arm pa).complete, next, monitor, frame_arm (locate_spec hloc).1 pa⟩
  · rw [exec_umonitor]
    exact execUmonitor_fault hp hf (locate_of_not_canonical hm Nat.one_pos hc _)

end Sys2Proof.Machine
end

section
/-! The example bytes of the spec; only the stores write memory (42_cldemote_movdir_wbnoinvd.md R327, R334; 47_vbmi2.md
R424); and what CLDEMOTE and WBNOINVD do (42_cldemote_movdir_wbnoinvd.md R321 to R323, R330 to R332). -/

namespace Sys2Proof

/-! ### Examples of encodings -/

/-- Bytes that are the encoding of a well-formed instruction decode to it. -/
theorem decode_of_encode_eq {m : DecodeMode} {i : Instr} {bs : List Byte} (hi : i.wellFormed m = true)
    (he : encode i = bs) : decode m bs = .instr i bs.length := by
  have back := decode_encode_append hi []
  rwa [List.append_nil, he] at back

/-- Settles O2: each example is the encoding of the instruction the spec names, so the decoder gives it back. -/
theorem specExamplesDecode : Obligations.SpecExamplesDecode := by
  refine ⟨?cldemote, ?movdiri, ?movdir64b, ?affineVex, ?affineEvex, ?tpause⟩
  all_goals exact decode_of_encode_eq (by decide) (by decide)

end Sys2Proof

namespace Sys2Proof.Machine

/-! ### Memory -/

theorem ControlOnly.mem {s t : State} (h : ControlOnly s t) : t.mem = s.mem := by rw [h]

@[simp] theorem pconfigEnd_mem (s : State) (st : PconfigStatus) : (pconfigEnd s st).mem = s.mem := by
  obtain ⟨v, h⟩ := pconfigEnd_eq s st
  rw [h]
  rfl

theorem PconfigEffect.mem {s t : State} {bs : List Byte} (h : PconfigEffect s bs t) : t.mem = s.mem := by
  cases h with
  | report h => simp [h.mem]
  | write _ h => simp [h.mem]

/-- Only a store changes memory. -/
theorem Effect.mem {i : Instr} {s t : State} (h : Effect i s t) (hi : ¬ StoresToMemory i) : t.mem = s.mem := by
  cases h with
  | exit h => exact h.controlOnly.mem
  | none h => exact h.mem
  | vec h => exact h.mem
  | mask _ h => exact h.mem
  | store hs => exact absurd hs hi
  | cpuid => rfl
  | wbnoinvd => rfl
  | pconfig _ h => rw [(pconfigKeyProgram_effect _ _).mem, h.mem]
  | tpause => rfl
  | umwait => simp
  | umonitor _ h => exact h.mem

/-- Settles O16: the instructions named are those that store. -/
theorem memoryWriters : Obligations.MemoryWriters := by
  intro i s t h h32 h64 h64b hb128 hb256 hb512 hw128 hw256 hw512
  have noStore : ¬ StoresToMemory i := by
    rintro (⟨n, p, r, m, hi⟩ | ⟨p, r, m, hi⟩ | ⟨e, m, hi⟩)
    · simp [movdiriRows, h32 p r m, h64 p r m] at hi
    · exact h64b p r m hi
    · simp [compressMemRows, hb128 e m, hb256 e m, hb512 e m, hw128 e m, hw256 e m, hw512 e m] at hi
  intro a
  simp only [State.byte, (exec_effect h).mem noStore]

/-! ### CLDEMOTE -/

/-- The pages with every accessed flag clear: what is the same before and after accessed flags are set. -/
def withoutAccessed (pages : Option (List PageEntry)) : Option (List PageEntry) :=
  pages.map (·.map fun q => { q with accessed := false })

theorem paging_of_pages {s : State} {ps : List PageEntry} (h : s.pages = some ps) : s.paging = some ps := by
  unfold State.pages at h
  split at h
  · exact h
  · cases h

/-- A translation for a read sets accessed flags and no dirty flag (20_memory.md R110). -/
theorem translate_read_withoutAccessed {s t : State} {la : Word64} {pa : Nat} (h : translate s .read la = .ok (pa, t)) :
    withoutAccessed t.paging = withoutAccessed s.paging := by
  unfold translate at h
  split at h
  · cases h; rfl
  · rename_i ps hps
    split at h
    · cases h
    · split at h
      · cases h
        simp only [withoutAccessed, paging_of_pages hps, Option.map_some, List.map_map]
        refine congrArg some (List.map_congr_left fun q _ => ?_)
        simp only [Function.comp_apply]
        split
        · simp [PageEntry.touch]
        · rfl
      · cases h

/-- CLDEMOTE's page may be touched, or nothing is (R323). -/
theorem State.mayTouch_eq (s : State) (la : Word64) :
    s.mayTouch la = { s with paging := (s.mayTouch la).paging, draws := (s.mayTouch la).draws } := by
  unfold State.mayTouch
  split <;> rfl

theorem State.mayTouch_withoutAccessed (s : State) (la : Word64) :
    withoutAccessed (s.mayTouch la).paging = withoutAccessed s.paging := by
  unfold State.mayTouch
  split
  · rfl
  · rename_i h
    dsimp only
    split
    · exact translate_read_withoutAccessed h
    · rfl

theorem State.pages_of_paging_none {s : State} (h : s.paging = none) : s.pages = none := by
  unfold State.pages
  split
  · exact h
  · rfl

section
variable {p : Pfx} (hp : p.forbidden = false) (m : Mem) {s : State}
include hp

/-- Without the feature, or where no pages translate, CLDEMOTE is a NOP (R322). -/
theorem execCldemote_nop (h : (s.cfg.features.cldemote && s.pages.isSome) = false) :
    execCldemote p m s = .next s.complete := by
  simp only [execCldemote, hp, h]
  rfl

/-- With both, it may touch the page of its address (R321, R323). -/
theorem execCldemote_touch (h : (s.cfg.features.cldemote && s.pages.isSome) = true) : execCldemote p m s =
    .next (s.mayTouch (linearAddress s (memSeg s p m) (memOff s p 1 m))).complete := by
  simp only [execCldemote, hp, h]
  rfl

end

theorem exec_cldemote (p : Pfx) (m : Mem) (s : State) : exec (.cldemote p m) s = execCldemote p m s := rfl

/-- Settles O42: without LOCK it touches a page or is a NOP, by the feature and paging. -/
theorem cldemoteIsNop : Obligations.CldemoteIsNop := by
  refine fun p m s => ⟨fun hp => ?_, fun hp => forbiddenPrefixFaults (.cldemote p m) s hp⟩
  rw [exec_cldemote]
  cases h : s.cfg.features.cldemote && s.pages.isSome
  case false => exact ⟨s.complete, execCldemote_nop hp m h, rfl, fun _ => ⟨rfl, rfl⟩, rfl⟩
  case true =>
    obtain ⟨hfeature, hpages⟩ := Bool.and_eq_true_iff.mp h
    refine ⟨_, execCldemote_touch hp m h, ?_, ?_, s.mayTouch_withoutAccessed _⟩
    · rw [State.complete, State.mayTouch_eq]
    · rintro (hoff | hnone)
      · rw [hfeature] at hoff; cases hoff
      · rw [State.pages_of_paging_none hnone] at hpages; cases hpages

/-! ### WBNOINVD -/

theorem exec_wbnoinvd (p : Pfx) (s : State) : exec (.wbnoinvd p) s = execWbnoinvd p s := rfl

/-- Real-address mode has CPL 0 (10_state.md R38). -/
theorem State.mode_ne_real_of_cpl {s : State} (h : s.cpl ≠ 0) : s.mode ≠ .real := fun hr => h (by simp [State.cpl, hr])

section
variable {p : Pfx} (hp : p.forbidden = false) {s : State}
include hp

/-- A processor without it: the model refuses the instruction (spec decision D4). -/
theorem execWbnoinvd_absent (hf : s.cfg.features.wbnoinvd = false) : execWbnoinvd p s = .refused .wbnoinvdAbsent := by
  simp only [execWbnoinvd, hp, hf]
  rfl

variable (hf : s.cfg.features.wbnoinvd = true)
include hf

/-- At CPL 0 outside virtual-8086 mode it serializes (R330, R331). -/
theorem execWbnoinvd_next (hm : s.mode ≠ .v86) (hc : s.cpl = 0) : execWbnoinvd p s = .next s.serialize.complete := by
  simp [execWbnoinvd, hp, hf, hm, hc]

/-- Elsewhere it raises #GP(0) (R332). -/
theorem execWbnoinvd_gp (h : s.mode = .v86 ∨ s.cpl ≠ 0) :
    execWbnoinvd p s = .fault (.exception .gp (some 0#32) none) := by
  have notReal : s.mode ≠ .real := by
    rcases h with hm | hc
    · simp [hm]
    · exact State.mode_ne_real_of_cpl hc
  have code : errorCode s .gp = some 0#32 := if_neg notReal
  have raised : finish (.error (raise s .gp)) = .fault (.exception .gp (some 0#32) none) := by rw [finish_raise, code]
  by_cases hm : s.mode = .v86
  · simpa [execWbnoinvd, hp, hf, hm] using raised
  · simpa [execWbnoinvd, hp, hf, hm, h.resolve_left hm] using raised

end

/-- Settles O45: the order of the checks is LOCK, the feature, then the privilege. -/
theorem wbnoinvdRules : Obligations.WbnoinvdRules := by
  refine fun p s => ⟨fun hp => forbiddenPrefixFaults (.wbnoinvd p) s hp, fun hp hf => ⟨fun hm hc => ?_, fun h => ?_⟩,
    fun hp hf => ?_⟩
  · rw [exec_wbnoinvd, execWbnoinvd_next hp hf hm hc]
    rfl
  · rw [exec_wbnoinvd, execWbnoinvd_gp hp hf h]
  · rw [exec_wbnoinvd, execWbnoinvd_absent hp hf]

end Sys2Proof.Machine
end

section
/-! What a row computes whose operation gives every element by itself (60_exceptions.md R610, R616): the shared courses for
the three encoding classes, and the lists of rows the statements speak of. -/

namespace Sys2Proof.Machine

/-- Elements of width `w` fill a vector length the registers can hold. -/
abbrev FillsVector (w vl : Nat) : Prop := 0 < w ∧ vl ≤ 512 ∧ w * (vl / w) = vl

section
variable {w : Nat} {r : VecRow}

/-! ### EVEX rows -/

section
variable {val : Vec → Vec → Vec → Nat → BitVec w} {mk : Evex → Rm → Instr} {rows : List (Evex → Rm → Instr)}

/-- The row of the table is `r`, and its operation is `val` element by element. -/
structure EvexLanes (val : Vec → Vec → Vec → Nat → BitVec w) (mk : Evex → Rm → Instr) (r : VecRow) : Prop where
  row : ∀ e rm, (mk e rm).vecRow = some r
  meaning : ∀ e rm s, exec (mk e rm) s = runEvex r (fun old a b => lanes w (r.vl / w) (val old a b)) e rm s

/-- A masked EVEX row. -/
theorem evexComputes_lanes (hform : r.form = .evex) (hesz : r.esz = w) (hfill : FillsVector w r.vl)
    (h : EvexLanes val mk r) : EvexComputes w [mk] val := by
  intro mk' hmk e rm s u r' b hr hready hsrc
  obtain rfl := List.mem_singleton.1 hmk
  obtain rfl := Option.some.inj ((h.row e rm).symm.trans hr)
  subst hesz
  obtain ⟨hpos, hle, hvl⟩ := hfill
  obtain ⟨t, hnext, hframe, hdest⟩ := runEvex_next (op := fun old a b => lanes r.esz (r.vl / r.esz) (val old a b))
    hform hready hsrc
  refine ⟨t, (h.meaning e rm s).trans hnext, ?_, hframe⟩
  rw [hdest]
  refine (hasElems_maskMerge r _ _ _ _ hpos hle hvl).congr fun j hj => ?_
  rw [elem_lanes _ _ _ _ hpos (hvl.le.trans hle) hj]

theorem EvexComputes.cons (h : EvexComputes w [mk] val) (hs : EvexComputes w rows val) :
    EvexComputes w (mk :: rows) val :=
  List.forall_mem_cons.2 ⟨h mk (List.mem_singleton_self mk), hs⟩

/-- The rows of an instruction at the three vector lengths. -/
theorem evexComputes_lengths {mk128 mk256 mk512 : Evex → Rm → Instr} {cell128 cell256 cell512 : List Feature}
    {bcast : Nat} {suppress nds : Bool} {masking : Masking} (hfill : ∀ vl ∈ [128, 256, 512], FillsVector w vl)
    (h128 : EvexLanes val mk128 (evexRow cell128 128 w bcast suppress nds masking))
    (h256 : EvexLanes val mk256 (evexRow cell256 256 w bcast suppress nds masking))
    (h512 : EvexLanes val mk512 (evexRow cell512 512 w bcast suppress nds masking)) :
    EvexComputes w [mk128, mk256, mk512] val :=
  .cons (evexComputes_lanes rfl rfl (hfill 128 (by simp)) h128) <|
    .cons (evexComputes_lanes rfl rfl (hfill 256 (by simp)) h256) (evexComputes_lanes rfl rfl (hfill 512 (by simp)) h512)

end

/-! ### VEX rows -/

section
variable {val : Vec → Vec → Nat → BitVec w} {mk : Vex → Rm → Instr} {rows : List (Vex → Rm → Instr)}

/-- A VEX row whose operation is `val` element by element: the result lies within the vector length, so within the
register (00_scope.md R8, 10_state.md R41). -/
theorem vexComputes_lanes (hfill : FillsVector w r.vl) (hrow : ∀ v rm, (mk v rm).vecRow = some r)
    (hexec : ∀ v rm s, exec (mk v rm) s = runVex r (fun a b => lanes w (r.vl / w) (val a b)) v rm s) :
    VexComputes w [mk] val := by
  intro mk' hmk v rm s u r' b hr hmax hready hsrc
  obtain rfl := List.mem_singleton.1 hmk
  obtain rfl := Option.some.inj ((hrow v rm).symm.trans hr)
  obtain ⟨hpos, hle, hvl⟩ := hfill
  obtain ⟨t, hnext, hframe, hdest⟩ := runVex_next (op := fun a b => lanes w (r.vl / w) (val a b)) hready hsrc
  have helems := hasElems_lanes w r.vl (val (s.vec (v.vvvv.setWidth 5)) b) hpos hle hvl
  refine ⟨t, (hexec v rm s).trans hnext, ?_, hframe⟩
  rw [hdest, vecCut_of_lt (helems.2.trans_le (Nat.pow_le_pow_right Nat.two_pos hmax))]
  exact helems

theorem VexComputes.cons (h : VexComputes w [mk] val) (hs : VexComputes w rows val) : VexComputes w (mk :: rows) val :=
  List.forall_mem_cons.2 ⟨h mk (List.mem_singleton_self mk), hs⟩

end

/-! ### Legacy-SSE rows -/

/-- A legacy-SSE row whose operation is `val` element by element. -/
theorem sseComputes_lanes {val : Vec → Vec → Nat → BitVec w} {mk : Pfx → GReg → Rm → Instr} (hfill : FillsVector w 128)
    (hrow : ∀ p x rm, (mk p x rm).vecRow = some r)
    (hexec : ∀ p x rm s, exec (mk p x rm) s = runSse r (fun a b => lanes w (128 / w) (val a b)) p x rm s) :
    SseComputes w [mk] val := by
  intro mk' hmk p x rm s u r' b hr hready hsrc
  obtain rfl := List.mem_singleton.1 hmk
  obtain rfl := Option.some.inj ((hrow p x rm).symm.trans hr)
  obtain ⟨hpos, hle, hvl⟩ := hfill
  obtain ⟨t, hnext, hframe, hdest⟩ := runSse_next (op := fun a b => lanes w (128 / w) (val a b)) hready hsrc
  refine ⟨t, (hexec p x rm s).trans hnext, fun j hj => ?_, ?_, hframe⟩
  · have hlow : w * (j + 1) ≤ 128 := (Nat.mul_le_mul_left w hj).trans hvl.le
    rw [hdest, elem_sseMerge _ _ _ _ hlow, elem_lanes _ _ _ _ hpos (hvl.le.trans hle) hj]
  · rw [hdest, sseMerge_high]

end

end Sys2Proof.Machine
end

section
/-! The field GF(2^8) and the affine transformations over it (43_gfni.md R341 to R344): the product, the parity and the
transformation are linear over XOR, so a law between linear functions need only be checked on the bytes of one bit. -/

namespace Sys2Proof.Machine

/-! ### Functions linear over XOR -/

/-- The function turns XOR into XOR. -/
def XorLinear (f : Byte → Byte) : Prop := ∀ x y, f (x ^^^ y) = f x ^^^ f y

theorem XorLinear.map_zero {f : Byte → Byte} (h : XorLinear f) : f 0#8 = 0#8 := by
  have twice := h 0#8 0#8
  rwa [BitVec.xor_self, BitVec.xor_self] at twice

/-- A byte is the XOR of its bits. -/
theorem foldl_bits_eq : ∀ x : Byte,
    (List.range 8).foldl (fun acc i => if x.getLsbD i then acc ^^^ 1#8 <<< i else acc) 0#8 = x := by decide

/-- Induction on a byte, bit by bit. -/
theorem byte_induction {P : Byte → Prop} (zero : P 0#8) (bit : ∀ x i, i < 8 → P x → P (x ^^^ 1#8 <<< i)) (x : Byte) :
    P x := by
  rw [← foldl_bits_eq x]
  refine List.foldlRecOn _ _ zero fun y hy i hi => ?_
  split
  · exact bit y i (List.mem_range.1 hi) hy
  · exact hy

/-- Linear functions that agree on the bytes of one bit are equal. -/
theorem XorLinear.ext {f g : Byte → Byte} (hf : XorLinear f) (hg : XorLinear g)
    (h : ∀ i < 8, f (1#8 <<< i) = g (1#8 <<< i)) (x : Byte) : f x = g x := by
  induction x using byte_induction with
  | zero => rw [hf.map_zero, hg.map_zero]
  | bit x i hi ih => rw [hf, hg, ih, h i hi]

/-! ### The product (R342) -/

/-- The carry-less product of two bytes, before the reduction. -/
def byteProduct (x y : Byte) : BitVec 16 :=
  (List.range 8).foldl (fun acc i => if y.getLsbD i then acc ^^^ (x.setWidth 16 <<< i) else acc) 0#16

/-- The reduction by 11BH. -/
def gfReduce (t : BitVec 16) : Byte :=
  ([14, 13, 12, 11, 10, 9, 8].foldl (fun acc i => if acc.getLsbD i then acc ^^^ (0x11B#16 <<< (i - 8)) else acc)
    t).setWidth 8

theorem gf2p8mul_eq (x y : Byte) : gf2p8mul x y = gfReduce (byteProduct x y) := rfl

section
variable {n : Nat} (a b m k : BitVec n) (c d : Bool)

theorem xor_left_comm_bitVec : a ^^^ (b ^^^ m) = b ^^^ (a ^^^ m) := by ac_rfl

theorem and_xor_distrib_bitVec : a &&& (b ^^^ m) = (a &&& b) ^^^ (a &&& m) :=
  BitVec.eq_of_getLsbD_eq fun i _ => by simp only [BitVec.getLsbD_and, BitVec.getLsbD_xor, Bool.and_xor_distrib_left]

theorem xor_ite_same_mask :
    (if c then a ^^^ m else a) ^^^ (if d then b ^^^ m else b) = if c ^^ d then (a ^^^ b) ^^^ m else a ^^^ b := by
  cases c <;> cases d <;> simp [BitVec.xor_comm, xor_left_comm_bitVec]

theorem xor_ite_same_cond :
    (if c then a ^^^ m else a) ^^^ (if c then b ^^^ k else b) = if c then (a ^^^ b) ^^^ (m ^^^ k) else a ^^^ b := by
  cases c <;> simp [BitVec.xor_assoc, xor_left_comm_bitVec]

end

theorem gfReduce_xor (t u : BitVec 16) : gfReduce (t ^^^ u) = gfReduce t ^^^ gfReduce u := by
  rw [gfReduce, List.foldl_hom₂ _ (· ^^^ ·) _ _ _ t u fun a b i => ?_]
  · exact BitVec.setWidth_xor
  · rw [xor_ite_same_mask, BitVec.getLsbD_xor]

theorem byteProduct_xor_left (x y z : Byte) : byteProduct (x ^^^ y) z = byteProduct x z ^^^ byteProduct y z :=
  List.foldl_hom₂ _ (· ^^^ ·) _ _ _ 0#16 0#16 fun a b i => by
    rw [xor_ite_same_cond, BitVec.setWidth_xor, BitVec.shiftLeft_xor_distrib]

theorem byteProduct_xor_right (x y z : Byte) : byteProduct x (y ^^^ z) = byteProduct x y ^^^ byteProduct x z :=
  List.foldl_hom₂ _ (· ^^^ ·) _ _ _ 0#16 0#16 fun a b i => by rw [xor_ite_same_mask, BitVec.getLsbD_xor]

theorem gf2p8mul_xor_left (z : Byte) : XorLinear (gf2p8mul · z) := fun x y => by
  simp only [gf2p8mul_eq, byteProduct_xor_left, gfReduce_xor]

theorem gf2p8mul_xor_right (x : Byte) : XorLinear (gf2p8mul x) := fun y z => by
  simp only [gf2p8mul_eq, byteProduct_xor_right, gfReduce_xor]

theorem gf2p8mul_bits_comm :
    ∀ i < 8, ∀ j < 8, gf2p8mul (1#8 <<< i) (1#8 <<< j) = gf2p8mul (1#8 <<< j) (1#8 <<< i) := by decide

theorem gf2p8mul_comm (x y : Byte) : gf2p8mul x y = gf2p8mul y x :=
  (gf2p8mul_xor_left y).ext (gf2p8mul_xor_right y) (fun i hi =>
    (gf2p8mul_xor_right _).ext (gf2p8mul_xor_left _) (gf2p8mul_bits_comm i hi) y) x

theorem gf2p8mul_one (x : Byte) : gf2p8mul x 1#8 = x :=
  (gf2p8mul_xor_left 1#8).ext (g := id) (fun _ _ => rfl) (by decide) x

/-! ### The inverse (R343) -/

/-- The one law that linearity does not give (the 254th power is not linear): a computation for each of the 255 bytes. -/
theorem gf2p8mul_gfInverse : ∀ x : Byte, x ≠ 0#8 → gf2p8mul x (gfInverse x) = 1#8 := by decide +kernel

/-- Settles O24: commutativity, the neutral element and distributivity come from linearity, the inverses from
`gf2p8mul_gfInverse`. -/
theorem fieldLaws : Obligations.FieldLaws :=
  ⟨gf2p8mul_comm, gf2p8mul_one, fun x y z => gf2p8mul_xor_left z x y, gf2p8mul_gfInverse, by decide +kernel⟩

/-! ### Parity (00_scope.md R13) -/

/-- The parity of a value is that of the number of its one bits. -/
theorem parity_eq_popcnt {n : Nat} (v : BitVec n) : parity v = (popcnt v % 2 == 1) := by
  refine List.foldl_hom (fun k => k % 2 == 1) (init := 0) fun k i => ?_
  rw [Nat.add_mod]
  cases v.getLsbD i <;> rcases Nat.mod_two_eq_zero_or_one k with h | h <;> simp [h]

theorem parity_xor {n : Nat} (u v : BitVec n) : parity (u ^^^ v) = (parity u ^^ parity v) := by
  refine List.foldl_hom₂ _ (· ^^ ·) _ _ _ false false fun a b i => ?_
  simp [Bool.xor_left_comm]

/-! ### The affine transformation (R344) -/

theorem getLsbD_affineByte (a : Word64) (x b : Byte) {i : Nat} (hi : i < 8) :
    (affineByte a x b).getLsbD i = (parity (a.extractLsb' (8 * (7 - i)) 8 &&& x) != b.getLsbD i) := by
  simp only [affineByte, getLsbD_byteFrom, hi, decide_true, Bool.true_and, Nat.zero_add]

theorem getLsbD_affineByte_popcnt (a : Word64) (x b : Byte) {i : Nat} (hi : i < 8) :
    (affineByte a x b).getLsbD i = ((popcnt (a.extractLsb' (8 * (7 - i)) 8 &&& x) % 2 == 1) != b.getLsbD i) := by
  rw [getLsbD_affineByte a x b hi, parity_eq_popcnt]

/-- The constant is added to the linear part. -/
theorem affineByte_eq_xor (a : Word64) (x b : Byte) : affineByte a x b = affineByte a x 0#8 ^^^ b :=
  BitVec.eq_of_getLsbD_eq fun i hi => by
    simp [getLsbD_affineByte _ _ _ hi]

theorem affineByte_xorLinear (a : Word64) : XorLinear (affineByte a · 0#8) := fun x y =>
  BitVec.eq_of_getLsbD_eq fun i hi => by
    simp [getLsbD_affineByte _ _ _ hi, and_xor_distrib_bitVec, parity_xor]

theorem reverse_xorLinear : XorLinear BitVec.reverse := fun x y =>
  BitVec.eq_of_getLsbD_eq fun i hi => by
    simp [BitVec.getLsbD_reverse]

/-- The identity matrix. -/
theorem affineByte_identity (x b : Byte) : affineByte 0x0102040810204080#64 x b = x ^^^ b := by
  have linear : affineByte 0x0102040810204080#64 x 0#8 = x :=
    (affineByte_xorLinear _).ext (g := id) (fun _ _ => rfl) (by decide) x
  rw [affineByte_eq_xor, linear]

/-- The matrix that turns the bits around. -/
theorem affineByte_reverse (x : Byte) : affineByte 0x8040201008040201#64 x 0#8 = x.reverse :=
  (affineByte_xorLinear _).ext reverse_xorLinear (by decide) x

/-- The matrix of ones. -/
theorem affineByte_ones (x : Byte) :
    affineByte 0xFFFFFFFFFFFFFFFF#64 x 0#8 = if popcnt x % 2 = 1 then 0xFF#8 else 0#8 :=
  BitVec.eq_of_getLsbD_eq fun i hi => by
    have row : ∀ i < 8, (0xFFFFFFFFFFFFFFFF#64).extractLsb' (8 * (7 - i)) 8 = BitVec.allOnes 8 := by decide
    have ones : ∀ i < 8, (0xFF#8).getLsbD i = true := by decide
    rw [getLsbD_affineByte_popcnt _ _ _ hi, row i hi, BitVec.allOnes_and]
    by_cases odd : popcnt x % 2 = 1
    · rw [if_pos odd, ones i hi, odd]
      simp
    · simp [odd]

/-- Settles O25: bit `i` is a parity; each worked matrix is a linear function known by its values on one bit. -/
theorem affineByteBits : Obligations.AffineByteBits :=
  ⟨fun a x b _ hi => getLsbD_affineByte_popcnt a x b hi, fun a x b _ hi => getLsbD_affineByte_popcnt a (gfInverse x) b hi,
    affineByte_identity, affineByte_reverse, affineByte_ones, by decide +kernel⟩

end Sys2Proof.Machine
end

section
/-! The instructions of GFNI: each gives every byte of its result by itself (43_gfni.md R346, R348, R350). -/

namespace Sys2Proof.Machine

/-- Settles O19: the operation of every row is the affine transformation byte by byte. -/
theorem gfniAffineResults : Obligations.GfniAffineResults := fun _ =>
  ⟨evexComputes_lengths (by decide) ⟨fun _ _ => rfl, fun _ _ _ => rfl⟩ ⟨fun _ _ => rfl, fun _ _ _ => rfl⟩
      ⟨fun _ _ => rfl, fun _ _ _ => rfl⟩,
    .cons (vexComputes_lanes (by decide) (fun _ _ => rfl) fun _ _ _ => rfl)
      (vexComputes_lanes (by decide) (fun _ _ => rfl) fun _ _ _ => rfl),
    sseComputes_lanes (by decide) (fun _ _ _ => rfl) fun _ _ _ _ => rfl⟩

/-- Settles O20: the operation is that transformation of the inverses. -/
theorem gfniAffineInverseResults : Obligations.GfniAffineInverseResults := fun _ =>
  ⟨evexComputes_lengths (by decide) ⟨fun _ _ => rfl, fun _ _ _ => rfl⟩ ⟨fun _ _ => rfl, fun _ _ _ => rfl⟩
      ⟨fun _ _ => rfl, fun _ _ _ => rfl⟩,
    .cons (vexComputes_lanes (by decide) (fun _ _ => rfl) fun _ _ _ => rfl)
      (vexComputes_lanes (by decide) (fun _ _ => rfl) fun _ _ _ => rfl),
    sseComputes_lanes (by decide) (fun _ _ _ => rfl) fun _ _ _ _ => rfl⟩

/-- Settles O21: the operation is the product in the field. -/
theorem gfniMulResults : Obligations.GfniMulResults :=
  ⟨evexComputes_lengths (by decide) ⟨fun _ _ => rfl, fun _ _ _ => rfl⟩ ⟨fun _ _ => rfl, fun _ _ _ => rfl⟩
      ⟨fun _ _ => rfl, fun _ _ _ => rfl⟩,
    .cons (vexComputes_lanes (by decide) (fun _ _ => rfl) fun _ _ _ => rfl)
      (vexComputes_lanes (by decide) (fun _ _ => rfl) fun _ _ _ => rfl),
    sseComputes_lanes (by decide) (fun _ _ _ => rfl) fun _ _ _ _ => rfl⟩

end Sys2Proof.Machine
end

section
/-! PCONFIG's one leaf: the status it ends with, by the tests in their order, and what it leaves (44_pconfig.md R361, R366,
R367); and where the instruction does not come to it (R360, R363, R365). -/

namespace Sys2Proof.Machine

theorem exec_pconfig (p : Pfx) (s : State) : exec (.pconfig p) s = execPconfig p s := rfl

/-! ### The status -/

/-- The statuses the leaf can answer with: a refusal by the tests before the lock; then the lock is held, or another
processor takes it first; then the command is carried out, for which command 1 needs entropy (R366, R367, D37). -/
inductive PconfigAnswer (s : State) (bs : List Byte) : PconfigStatus → Prop
  | refused {st : PconfigStatus} (hr : pconfigRefusal s bs = some st) : PconfigAnswer s bs st
  | locked (hr : pconfigRefusal s bs = none) (hl : s.keyTableLock = .exclusive) : PconfigAnswer s bs .deviceBusy
  | taken (hr : pconfigRefusal s bs = none) (hl : s.keyTableLock ≠ .exclusive) (hp : 2 ≤ s.cfg.logicalProcessors) :
      PconfigAnswer s bs .deviceBusy
  | programmed (hr : pconfigRefusal s bs = none) (hl : s.keyTableLock ≠ .exclusive) : PconfigAnswer s bs .success
  | noEntropy (hr : pconfigRefusal s bs = none) (hl : s.keyTableLock ≠ .exclusive) (hc : structCommand bs = 1) :
      PconfigAnswer s bs .entropyError

/-- Where the leaf ends with a status: a failure after checks only, a success with the write of its KeyID's entry. -/
inductive PconfigEnds (s : State) (bs : List Byte) : PconfigStatus → State → Prop
  | failed {st : PconfigStatus} (hst : st ≠ .success) {u : State} (h : AfterChecks s u) :
      PconfigEnds s bs st (pconfigEnd u st)
  | written {u : State} (h : AfterChecks s u) (k : KeySlot) :
      PconfigEnds s bs .success (pconfigEnd (u.setKey (structKeyId bs) k) .success)

/-- No test refuses with the status of success. -/
theorem ne_success_of_pconfigRefusal {s : State} {bs : List Byte} {st : PconfigStatus}
    (h : pconfigRefusal s bs = some st) : st ≠ .success := by
  rintro rfl
  unfold pconfigRefusal at h
  split_ifs at h <;> cases h

/-- The lock is not acquired where it is held, or where another processor may take it (R366, R368). -/
theorem acquireKeyTable_cases (s : State) :
    ((acquireKeyTable s).1 = true ∧ s.keyTableLock ≠ .exclusive) ∨
      ((acquireKeyTable s).1 = false ∧ (s.keyTableLock = .exclusive ∨
        s.keyTableLock ≠ .exclusive ∧ 2 ≤ s.cfg.logicalProcessors)) := by
  unfold acquireKeyTable
  split
  case isTrue hl => exact .inr ⟨rfl, .inl hl⟩
  case isFalse hl =>
    split
    case isTrue => exact .inl ⟨rfl, hl⟩
    case isFalse hp =>
      cases hb : s.anyBool with
      | true => exact .inl ⟨rfl, hl⟩
      | false => exact .inr ⟨rfl, .inr ⟨hl, by omega⟩⟩

/-- Under the lock every command succeeds, but that command 1 may find no entropy (R367). -/
theorem pconfigProgram_ends {s u : State} (h : AfterChecks s u) (bs : List Byte) :
    PconfigEnds s bs .success (pconfigProgram u bs) ∨
      (PconfigEnds s bs .entropyError (pconfigProgram u bs) ∧ structCommand bs = 1) := by
  have drawn : AfterChecks s u.drawn := h.trans (.drawn u)
  have drawn2 : AfterChecks s u.drawn.drawn := drawn.trans (.drawn _)
  unfold pconfigProgram
  dsimp only
  split
  · exact .inl (.written h _)
  · rename_i hc
    split
    · exact .inr ⟨.failed (by decide) drawn, hc⟩
    · split
      · exact .inr ⟨.failed (by decide) drawn2, hc⟩
      · exact .inl (.written drawn2 _)
  · exact .inl (.written h _)
  · exact .inl (.written h _)

/-- The leaf ends with a status the tests allow. -/
theorem pconfigKeyProgram_ends (s : State) (bs : List Byte) :
    ∃ st, PconfigAnswer s bs st ∧ PconfigEnds s bs st (pconfigKeyProgram s bs) := by
  cases hr : pconfigRefusal s bs with
  | some st =>
    have run : pconfigKeyProgram s bs = pconfigEnd s st := by simp only [pconfigKeyProgram, hr]
    exact ⟨st, .refused hr, run ▸ .failed (ne_success_of_pconfigRefusal hr) (.refl s)⟩
  | none =>
    have lock := acquireKeyTable_spec s
    rcases ha : acquireKeyTable s with ⟨acquired, u⟩
    have acquire := acquireKeyTable_cases s
    rw [ha] at lock acquire
    obtain ⟨rfl, hl⟩ | ⟨rfl, hbusy⟩ := acquire
    · have run : pconfigKeyProgram s bs = pconfigProgram u bs := by simp only [pconfigKeyProgram, hr, ha]
      rw [run]
      rcases pconfigProgram_ends lock bs with hend | ⟨hend, hc⟩
      · exact ⟨_, .programmed hr hl, hend⟩
      · exact ⟨_, .noEntropy hr hl hc, hend⟩
    · have run : pconfigKeyProgram s bs = pconfigEnd u .deviceBusy := by simp only [pconfigKeyProgram, hr, ha]
      rw [run]
      refine ⟨.deviceBusy, ?_, .failed (by decide) lock⟩
      rcases hbusy with hl | ⟨hl, hp⟩
      · exact .locked hr hl
      · exact .taken hr hl hp

/-- The tests in their order, the range of KeyIDs as bounds (R366). -/
theorem pconfigRefusal_eq (s : State) (bs : List Byte) : pconfigRefusal s bs =
    if 3 < structCommand bs then some .invalidProgCmd
    else if structKeyId bs = 0 ∨ 2 ^ s.msr.mkTmeKeyidBits ≤ structKeyId bs ∨ s.msr.mkTmeMaxKeys < structKeyId bs then
      some .invalidKeyId
    else if popcnt (structEncAlg bs) ≠ 1 ∨ structEncAlg bs &&& s.msr.mkTmeCryptoAlgs = 0#16 then some .invalidEncAlg
    else none := by
  have range : (2 ^ s.msr.mkTmeKeyidBits - 1 < structKeyId bs ∨ s.msr.mkTmeMaxKeys < structKeyId bs ∨
      structKeyId bs = 0) ↔
      structKeyId bs = 0 ∨ 2 ^ s.msr.mkTmeKeyidBits ≤ structKeyId bs ∨ s.msr.mkTmeMaxKeys < structKeyId bs := by
    have := Nat.two_pow_pos s.msr.mkTmeKeyidBits
    omega
  exact if_congr .rfl rfl (if_congr range rfl rfl)

/-- A refusal leaves no other answer: the lock is not tried (R366). -/
theorem PconfigAnswer.eq_of_refusal {s : State} {bs : List Byte} {st r : PconfigStatus} (h : PconfigAnswer s bs st)
    (hr : pconfigRefusal s bs = some r) : st = r := by
  cases h with
  | refused h => exact Option.some.inj (h.symm.trans hr)
  | locked h | taken h | programmed h | noEntropy h => rw [h] at hr; cases hr

/-- The code of the answer, by the tests in their order (R361, R366). -/
theorem PconfigAnswer.code {s : State} {bs : List Byte} {st : PconfigStatus} (h : PconfigAnswer s bs st) :
    if 3 < structCommand bs then st.code = 1
    else if structKeyId bs = 0 ∨ 2 ^ s.msr.mkTmeKeyidBits ≤ structKeyId bs ∨ s.msr.mkTmeMaxKeys < structKeyId bs then
      st.code = 3
    else if popcnt (structEncAlg bs) ≠ 1 ∨ structEncAlg bs &&& s.msr.mkTmeCryptoAlgs = 0#16 then st.code = 4
    else if s.keyTableLock = .exclusive then st.code = 5
    else st.code = 0 ∨ (st.code = 2 ∧ structCommand bs = 1) ∨ (st.code = 5 ∧ 2 ≤ s.cfg.logicalProcessors) := by
  have tests := pconfigRefusal_eq s bs
  split_ifs at tests ⊢ with hcmd hid halg hlock
  · rw [h.eq_of_refusal tests]; rfl
  · rw [h.eq_of_refusal tests]; rfl
  · rw [h.eq_of_refusal tests]; rfl
  · cases h with
    | refused hr => rw [tests] at hr; cases hr
    | locked => rfl
    | taken => rfl
    | programmed _ hl | noEntropy _ hl => exact absurd hlock hl
  · cases h with
    | refused hr => rw [tests] at hr; cases hr
    | locked _ hl => exact absurd hl hlock
    | taken _ _ hp => exact .inr (.inr ⟨rfl, hp⟩)
    | programmed => exact .inl rfl
    | noEntropy _ _ hc => exact .inr (.inl ⟨rfl, hc⟩)

/-! ### The result and the frame -/

theorem PconfigStatus.code_eq_zero {st : PconfigStatus} : st.code = 0 ↔ st = .success := by
  cases st <;> simp [PconfigStatus.code]

/-- ZF tells failure, the other five status flags are clear (R361). -/
theorem pconfigFlags_eq (f : Word64) (failed : Bool) :
    pconfigFlags f failed = (f &&& ~~~statusMask) ||| (if failed then 0x40#64 else 0#64) := by
  have cf : flagBit flagCF false = 0#64 := rfl
  rw [pconfigFlags, withStatus, cf, BitVec.or_zero]
  rfl

/-- In 64-bit mode the status is in all of RAX (R361). -/
theorem pconfigEnd_gpr64_rax {s : State} (h : s.is64 = true) (st : PconfigStatus) :
    (pconfigEnd s st).gpr64 rax = BitVec.ofNat 64 st.code := by
  simp [pconfigEnd, h]

section
variable {s t : State} {bs : List Byte} {st : PconfigStatus}

theorem PconfigEnds.gpr32_rax (h : PconfigEnds s bs st t) : t.gpr32 rax = BitVec.ofNat 32 st.code := by
  cases h with
  | failed => exact pconfigEnd_gpr32_rax ..
  | written => exact pconfigEnd_gpr32_rax ..

/-- The mode is as before the checks (10_state.md R38). -/
theorem AfterChecks.is64 {u : State} (h : AfterChecks s u) : u.is64 = s.is64 := by
  rw [State.is64, State.is64, State.mode_congr h.sys h.rflags]

theorem PconfigEnds.gpr64_rax (h : PconfigEnds s bs st t) (h64 : s.is64 = true) :
    t.gpr64 rax = BitVec.ofNat 64 st.code := by
  cases h with
  | failed _ h => exact pconfigEnd_gpr64_rax (h.is64.trans h64) _
  | written h => exact pconfigEnd_gpr64_rax (s := State.setKey _ _ _) (h.is64.trans h64) _

theorem PconfigEnds.rflags (h : PconfigEnds s bs st t) :
    t.rflags = (s.rflags &&& ~~~statusMask) ||| (if st.code = 0 then 0#64 else 0x40#64) := by
  cases h with
  | failed hst h => simp [pconfigFlags_eq, h.rflags, hst, PconfigStatus.code_eq_zero]
  | written h => simp [pconfigFlags_eq, h.rflags, PconfigStatus.code_eq_zero]

/-- A failure leaves the key table (R366, R367). -/
theorem PconfigEnds.keyTable (h : PconfigEnds s bs st t) (hst : st ≠ .success) : t.keyTable = s.keyTable := by
  cases h with
  | failed _ h => rw [pconfigEnd_keyTable, h.keyTable]
  | written => exact absurd rfl hst

/-- Every other KeyID keeps its entry (R367). -/
theorem PconfigEnds.keySlot_of_ne (h : PconfigEnds s bs st t) {id : Nat} (hid : id ≠ structKeyId bs) :
    keySlot t.keyTable id = keySlot s.keyTable id := by
  cases h with
  | failed _ h => rw [pconfigEnd_keyTable, h.keyTable]
  | written h => rw [pconfigEnd_keyTable, State.setKey_keyTable, keySlot_setKeySlot, if_neg hid, h.keyTable]

theorem pconfigEnd_vec_monitor (s : State) (st : PconfigStatus) :
    SameVecs s (pconfigEnd s st) ∧ (pconfigEnd s st).monitor = s.monitor := by
  obtain ⟨v, h⟩ := pconfigEnd_eq s st
  rw [h]
  exact ⟨fun _ => rfl, rfl⟩

theorem PconfigEffect.vec_monitor (h : PconfigEffect s bs t) : SameVecs s t ∧ t.monitor = s.monitor := by
  cases h with
  | report h st =>
    obtain ⟨vecs, monitor⟩ := pconfigEnd_vec_monitor _ st
    exact ⟨fun r => (vecs r).trans (h.vec r), monitor.trans h.monitor⟩
  | write _ h =>
    obtain ⟨vecs, monitor⟩ := pconfigEnd_vec_monitor (State.setKey _ _ _) .success
    exact ⟨fun r => (vecs r).trans (h.vec r), monitor.trans h.monitor⟩

/-- The leaf leaves all but RAX, the flags, RIP and the key table. -/
theorem PconfigEffect.frame (h : PconfigEffect s bs t) :
    (∀ x, x ≠ rax → t.gpr64 x = s.gpr64 x) ∧ SameVecs s t ∧ SameMasks s t ∧ SameMemory s t ∧ t.msr = s.msr ∧
      t.tsc = s.tsc ∧ t.monitor = s.monitor ∧ SameSystem s t ∧ t.rip = s.nextRip := by
  obtain ⟨vecs, monitor⟩ := h.vec_monitor
  obtain ⟨system, msr⟩ := h.sameSystem
  exact ⟨fun _ => h.gpr64_of_ne, vecs, sameMasks_of_k h.k, fun a => by simp only [State.byte, h.mem], msr, h.tsc, monitor,
    system, h.rip.1⟩

/-! The read of the structure checks its bytes; what follows from the state after it follows from the state before. -/

theorem PconfigEnds.of_afterChecks {u : State} (hu : AfterChecks s u) (h : PconfigEnds u bs st t) :
    PconfigEnds s bs st t := by
  cases h with
  | failed hst h => exact .failed hst (hu.trans h)
  | written h k => exact .written (hu.trans h) k

theorem PconfigEffect.of_afterChecks {u : State} (hu : AfterChecks s u) (h : PconfigEffect u bs t) :
    PconfigEffect s bs t := by
  cases h with
  | report h st => exact .report (hu.trans h) st
  | write hr h k => exact .write ((pconfigRefusal_congr hu.msr bs).symm.trans hr) (hu.trans h) k

theorem PconfigAnswer.of_afterChecks {u : State} (hu : AfterChecks s u) (h : PconfigAnswer u bs st) :
    PconfigAnswer s bs st := by
  have refusal := pconfigRefusal_congr hu.msr bs
  cases h with
  | refused hr => exact .refused (refusal.symm.trans hr)
  | locked hr hl => exact .locked (refusal.symm.trans hr) (hu.keyTableLock.symm.trans hl)
  | taken hr hl hp => exact .taken (refusal.symm.trans hr) (hu.keyTableLock ▸ hl) (hu.cfg ▸ hp)
  | programmed hr hl => exact .programmed (refusal.symm.trans hr) (hu.keyTableLock ▸ hl)
  | noEntropy hr hl hc => exact .noEntropy (refusal.symm.trans hr) (hu.keyTableLock ▸ hl) hc

end

/-- Settles O48: the leaf ends with a status its tests allow, and from that status come the result and the key table. -/
theorem pconfigReports : Obligations.PconfigReports := by
  intro p s u bs hl he hr ha hm hz
  have hu : AfterChecks s u := (readMem_spec hm).1
  obtain ⟨st, answer, ends⟩ := pconfigKeyProgram_ends u bs
  replace answer := answer.of_afterChecks hu
  replace ends := ends.of_afterChecks hu
  exact ⟨pconfigKeyProgram u bs, st.code, (exec_pconfig p s).trans (execPconfig_next hl he hr ha hm hz), ends.gpr32_rax,
    ends.gpr64_rax, ends.rflags, answer.code,
    fun hst => ends.keyTable (mt PconfigStatus.code_eq_zero.mpr hst), fun _ => ends.keySlot_of_ne,
    ((pconfigKeyProgram_effect u bs).of_afterChecks hu).frame⟩

/-! ### Where PCONFIG does not run -/

/-- A course whose first check does not pass raises its exception. -/
theorem finish_check_fault {s : State} {c : Bool} {e : Exc} {f : Unit → Except Stop State} (h : c = false) :
    finish (check s c e >>= f) = .fault (.exception e (errorCode s e) none) := by
  subst h
  rfl

section
variable {p : Pfx} {s : State}

/-- The causes of #UD come before all others (R360, R365; the order is D14). -/
theorem execPconfig_ud (hl : pconfigLegal p s = false) : execPconfig p s = .fault .undefinedOpcode :=
  finish_check_ud hl

theorem pconfigLegal_eq_false (h : p.forbidden = true ∨ s.mode = .v86 ∨ s.cfg.features.pconfig = false ∨ s.cpl ≠ 0 ∨
    (s.vmx.mode = .nonRoot ∧ s.vmx.vmcs.pconfigEnable = false)) : pconfigLegal p s = false := by
  unfold pconfigLegal
  rcases h with h | h | h | h | ⟨hm, he⟩
  · simp [h]
  · simp [h]
  · simp [h]
  · simp [h]
  · simp [hm, he]

variable (hl : pconfigLegal p s = true)
include hl

/-- A guest's PCONFIG that is to exit does so before the checks of #GP (R363, D35). -/
theorem execPconfig_exit (he : pconfigExits s = true) : execPconfig p s = .next (s.vmExit .pconfig 0#64) := by
  simp only [execPconfig, hl, he, check_true, ok_bind]
  rfl

variable (he : pconfigExits s = false)
include he

/-- The leaf, the target or IA32_TME_ACTIVATE is not as it must be (R365). -/
theorem execPconfig_not_ready (hr : pconfigReady s = false) :
    execPconfig p s = .fault (.exception .gp (errorCode s .gp) none) := by
  simp only [execPconfig, hl, he, check_true, ok_bind]
  exact finish_check_fault hr

variable (hr : pconfigReady s = true)
include hr

/-- The structure is not on a 256-byte boundary (R365). -/
theorem execPconfig_unaligned (ha : (pconfigBase s).toNat % 256 ≠ 0) :
    execPconfig p s = .fault (.exception .gp (errorCode s .gp) none) := by
  simp only [execPconfig, hl, he, hr, check_true, ok_bind]
  refine finish_check_fault (decide_eq_false fun aligned => ha ?_)
  simpa using congrArg BitVec.toNat aligned

/-- A reserved byte of the structure is not zero (R365). -/
theorem execPconfig_reserved (ha : (pconfigBase s).toNat % 256 = 0) {bs : List Byte} {u : State}
    (hm : readMem s Access.load .ds (pconfigBase s) 192 = .ok (bs, u)) (hz : structReservedClear bs = false) :
    execPconfig p s = .fault (.exception .gp (errorCode s .gp) none) := by
  have aligned : (pconfigBase s).setWidth 8 = 0#8 := BitVec.eq_of_toNat_eq (by simpa using ha)
  simp only [execPconfig, hl, he, hr, aligned, decide_true, hm, check_true, ok_bind]
  exact finish_check_fault hz

end

theorem pconfigReady_eq_true {s : State} : pconfigReady s = true ↔
    s.gpr32 rax = 0#32 ∧ s.cfg.mktmeTarget = true ∧ s.msr.tmeLock = true ∧ s.msr.tmeEnable = true ∧
      s.msr.mkTmeKeyidBits ≠ 0 := by
  simp [pconfigReady, and_assoc]

/-- Settles O50: each check of the order raises its fault or exits where those before it pass. -/
theorem pconfigFaults : Obligations.PconfigFaults := by
  refine fun p s => ⟨fun h => (exec_pconfig p s).trans (execPconfig_ud (pconfigLegal_eq_false h)), fun hl hm hbit => ?_,
    fun hl he h => (exec_pconfig p s).trans ?_,
    fun bs u hl he hr ha hm hz => (exec_pconfig p s).trans (execPconfig_reserved hl he hr ha hm hz)⟩
  · exact (exec_pconfig p s).trans (execPconfig_exit hl (by rw [pconfigExits, bit, hm, hbit]; rfl))
  · cases hr : pconfigReady s with
    | false => exact execPconfig_not_ready hl he hr
    | true =>
      obtain ⟨hleaf, htarget, hlock, henable, hbits⟩ := pconfigReady_eq_true.mp hr
      refine execPconfig_unaligned hl he hr ?_
      simpa [hleaf, htarget, hlock, henable, hbits] using h

end Sys2Proof.Machine
end

section
/-! TPAUSE and UMWAIT: where they stop (45_waitpkg.md R389; 30_encoding.md R195), and what the end of a wait leaves
(R381, R385 to R388). -/

namespace Sys2Proof

/-! ### The bytes of the three instructions with a memory operand -/

/-- The memory form of `0F AE /6` under 66H, F2H or F3H alone is #UD (30_encoding.md R195). -/
theorem buildAE_mem {p : Prefixes} {x : GReg} (hx : x &&& 7#4 = 6#4)
    (hp : (p.p66, p.f2, p.f3) ∈ [(true, false, false), (false, true, false), (false, false, true)]) (m : Mem) :
    buildAE p x (.mem m) = .undefined := by
  have one : (p.p66 = true ∧ p.f2 = false ∧ p.f3 = false) ∨ (p.p66 = false ∧ p.f2 = true ∧ p.f3 = false) ∨
      (p.p66 = false ∧ p.f2 = false ∧ p.f3 = true) := by simpa using hp
  obtain ⟨h66, h2, h3⟩ | ⟨h66, h2, h3⟩ | ⟨h66, h2, h3⟩ := one
  · simp [buildAE, hx, h66, h2, h3]
  · simp [buildAE, hx, h66, h2, h3]
  · exact buildAE_f3_mem h66 h3 h2 hx m

end Sys2Proof

namespace Sys2Proof.Machine

/-! ### The checks of TPAUSE and UMWAIT -/

/-- A source with no bit above bit 0 is 0 or 1 (R381). -/
theorem waitSource_eq_true {s : State} {r : GReg} : waitSource s r = true ↔ (s.gpr32 r).toNat < 2 := by
  have bound := (s.gpr32 r).isLt
  simp only [waitSource, decide_eq_true_eq, BitVec.toNat_eq, BitVec.extractLsb'_toNat, BitVec.toNat_zero,
    Nat.shiftRight_eq_div_pow]
  omega

/-- The state TPAUSE and UMWAIT complete in, where `u` is the state the wait from `s` ends in (R381, R385). -/
def State.waitEnd (s u : State) : State := (u.setRflags (waitFlags s.rflags (waitCarry s u))).complete

/-- The course of TPAUSE and UMWAIT: their checks, then the end of the wait (R381, R385, R389). -/
def waitCourse (p : Pfx) (r : GReg) (s u : State) : Host.Outcome State Fault Refusal :=
  finish do
    check s (waitpkgLegal p s) .ud
    check s (waitSource s r) .gp
    pure (s.waitEnd u)

theorem exec_tpause (p : Pfx) (r : GReg) (s : State) : exec (.tpause p r) s = waitCourse p r s s.wait := rfl

/-- UMWAIT's CF is read before the monitor is settled, which leaves the counter. -/
theorem exec_umwait (p : Pfx) (r : GReg) (s : State) :
    exec (.umwait p r) s = waitCourse p r s s.waitArmed.afterWait := by
  simp only [waitCourse, State.waitEnd, waitCarry, State.afterWait_tsc]
  rfl

section
variable {p : Pfx} {r : GReg} {s : State} (u : State)

theorem waitCourse_ud (h : p.forbidden = true ∨ s.cfg.features.waitpkg = false) :
    waitCourse p r s u = .fault .undefinedOpcode :=
  finish_check_ud (by rcases h with h | h <;> simp [waitpkgLegal, h])

variable (hp : p.forbidden = false) (hf : s.cfg.features.waitpkg = true)
include hp hf

theorem waitCourse_gp (h : 2 ≤ (s.gpr32 r).toNat) :
    waitCourse p r s u = .fault (.exception .gp (errorCode s .gp) none) := by
  have source : waitSource s r = false := Bool.eq_false_iff.mpr (mt waitSource_eq_true.mp (Nat.not_lt.mpr h))
  simp only [waitCourse, waitpkgLegal_eq_true hp hf, check_true, ok_bind]
  exact finish_check_fault source

theorem waitCourse_next (h : (s.gpr32 r).toNat < 2) : waitCourse p r s u = .next (s.waitEnd u) := by
  simp only [waitCourse, waitpkgLegal_eq_true hp hf, waitSource_eq_true.mpr h, check_true, ok_bind]
  rfl

end

/-- Settles O52: #UD, then #GP(0), in the order of the two checks; and the memory forms decode to #UD. -/
theorem waitFaults : Obligations.WaitFaults := by
  refine ⟨fun c hc p r s => ?_, fun m p x hx hp => buildAE_mem hx (List.contains_iff_mem.mp hp) m⟩
  obtain ⟨u, run⟩ : ∃ u, exec (c p r) s = waitCourse p r s u := by
    obtain rfl | rfl : c = .tpause ∨ c = .umwait := by simpa using hc
    · exact ⟨_, exec_tpause p r s⟩
    · exact ⟨_, exec_umwait p r s⟩
  rw [run]
  exact ⟨waitCourse_ud u, waitCourse_gp u⟩

/-! ### The flags -/

/-- CF is as given, the other five status flags are clear (R381, R385). -/
theorem waitFlags_eq (f : Word64) (cf : Bool) :
    waitFlags f cf = (f &&& ~~~statusMask) ||| (if cf then 1#64 else 0#64) := by
  have zf : flagBit flagZF false = 0#64 := rfl
  rw [waitFlags, withStatus, zf, BitVec.or_zero]
  rfl

theorem waitFlags_getLsbD_zero (f : Word64) (cf : Bool) : (waitFlags f cf).getLsbD 0 = cf := by
  have clear : (~~~statusMask).getLsbD 0 = false := by decide
  rw [waitFlags_eq, BitVec.getLsbD_or, BitVec.getLsbD_and, clear]
  cases cf <;> simp

/-- EDX:EAX as a number (R381). -/
theorem instrDeadline_eq (s : State) : instrDeadline s = (s.gpr32 rdx).toNat * 2 ^ 32 + (s.gpr32 rax).toNat := by
  rw [instrDeadline, BitVec.toNat_append, ← Nat.shiftLeft_add_eq_or_of_lt (s.gpr32 rax).isLt, Nat.shiftLeft_eq]

/-- CF: there is a limit, it ends before the deadline, and the counter is strictly past it (R386, R388). -/
theorem waitCarry_eq_true {s t : State} : waitCarry s t = true ↔ umwaitLimit s ≠ 0 ∧
    s.tsc.toNat + umwaitLimit s < instrDeadline s ∧ s.tsc.toNat + umwaitLimit s < t.tsc.toNat := by
  have inForce : usingOsDeadline s = true ↔ umwaitLimit s ≠ 0 ∧ s.tsc.toNat + umwaitLimit s < instrDeadline s := by
    rw [usingOsDeadline, Bool.and_eq_true_iff, decide_eq_true_iff, decide_eq_true_iff]
  rw [waitCarry, Bool.and_eq_true_iff, decide_eq_true_iff, ← and_assoc, ← inForce]
  refine and_congr_right fun h => ?_
  rw [waitDeadline, if_pos h]

/-- No time has passed, so no limit is behind. -/
theorem waitCarry_of_tsc_eq {s t : State} (h : t.tsc = s.tsc) : waitCarry s t = false :=
  Bool.eq_false_iff.mpr fun carry => by
    obtain ⟨-, -, behind⟩ := waitCarry_eq_true.mp carry
    rw [h] at behind
    omega

/-! ### What a wait leaves -/

/-- `u` is `s` but for the counter and the monitor, which a wait may change (R384, R387). -/
def WaitedFrom (s u : State) : Prop := u = { s with tsc := u.tsc, monitor := u.monitor, draws := u.draws }

theorem State.wait_waitedFrom (s : State) : WaitedFrom s s.wait := rfl

theorem State.waitArmed_waitedFrom (s : State) : WaitedFrom s s.waitArmed := by
  unfold State.waitArmed
  split <;> rfl

theorem State.afterWait_waitedFrom (s : State) : WaitedFrom s s.afterWait := by
  unfold State.afterWait
  split <;> rfl

theorem WaitedFrom.trans {s t u : State} (h : WaitedFrom s t) (k : WaitedFrom t u) : WaitedFrom s u := by
  unfold WaitedFrom at *
  rw [k, h]

section
variable {s u : State}

/-- A completed wait leaves all but the counter, the monitor, the flags and RIP. -/
theorem frame_waitEnd (h : WaitedFrom s u) :
    let t := s.waitEnd u
    SameGprs s t ∧ SameVecs s t ∧ SameMasks s t ∧ SameMemory s t ∧ t.msr = s.msr ∧ t.keyTable = s.keyTable ∧
      SameSystem s t ∧ t.rip = s.nextRip := by
  rw [h]
  exact ⟨fun _ => rfl, fun _ => rfl, fun _ => rfl, fun _ => rfl, rfl, rfl, ⟨rfl, rfl, rfl, rfl, rfl, rfl, rfl⟩, rfl⟩

/-- CF at the end of a wait, the limit and the deadline read off the registers (R381, R386, R388). -/
theorem waitEnd_rflags : (s.waitEnd u).rflags = (s.rflags &&& ~~~statusMask) |||
    (if umwaitLimit s ≠ 0 ∧ s.tsc.toNat + umwaitLimit s < (s.gpr32 rdx).toNat * 2 ^ 32 + (s.gpr32 rax).toNat ∧
      s.tsc.toNat + umwaitLimit s < u.tsc.toNat then 1#64 else 0#64) := by
  rw [State.waitEnd, State.complete_rflags, State.setRflags_rflags, waitFlags_eq, ← instrDeadline_eq]
  exact congrArg _ (if_congr waitCarry_eq_true rfl rfl)

/-- Where the counter stays, CF is 0 (R385). -/
theorem waitEnd_of_tsc_eq (h : u.tsc = s.tsc) :
    (s.waitEnd u).tsc = s.tsc ∧ (s.waitEnd u).rflags.getLsbD 0 = false := by
  refine ⟨h, ?_⟩
  rw [State.waitEnd, State.complete_rflags, State.setRflags_rflags, waitFlags_getLsbD_zero, waitCarry_of_tsc_eq h]

end

/-- Settles O51: both complete in the end of their wait, which for UMWAIT is none without an armed monitor. -/
theorem waitCompletes : Obligations.WaitCompletes := by
  intro c hc p r s hp hf hr limit deadline
  obtain rfl | rfl : c = (false, .tpause) ∨ c = (true, .umwait) := by simpa using hc
  case inl =>
    exact ⟨s.waitEnd s.wait, (exec_tpause p r s).trans (waitCourse_next _ hp hf hr), toNat_tscAdvance_ge _ _,
      waitEnd_rflags, fun h => absurd h Bool.false_ne_true, .inl rfl, frame_waitEnd s.wait_waitedFrom⟩
  case inr =>
    have time : s.waitArmed.afterWait.tsc = s.waitArmed.tsc := State.afterWait_tsc _
    have monitor := s.waitArmed.afterWait_monitor
    rw [State.waitArmed_monitor] at monitor
    refine ⟨s.waitEnd s.waitArmed.afterWait, (exec_umwait p r s).trans (waitCourse_next _ hp hf hr),
      time ▸ s.waitArmed_tsc_ge, waitEnd_rflags, fun _ unarmed => waitEnd_of_tsc_eq ?_,
      monitor.imp_right fun h => ⟨rfl, h⟩, frame_waitEnd (s.waitArmed_waitedFrom.trans (State.afterWait_waitedFrom _))⟩
    rw [time, State.waitArmed_of_none _ unarmed]

end Sys2Proof.Machine
end

section
/-! EVEX rows without masking whose operation gives every element by itself (30_encoding.md R173; 60_exceptions.md
R610), and the instructions of VAES and VPCLMULQDQ, whose elements are the 128-bit lanes (46_vaes_vpclmulqdq.md R405 to
R412). -/

namespace Sys2Proof.Machine

/-- A vector that ends at element `n` is made of its elements. -/
theorem lanes_elem {E n : Nat} {v : Vec} (hE : 0 < E) (hv : v.toNat < 2 ^ (E * n)) : lanes E n (elem E v) = v :=
  BitVec.eq_of_getLsbD_eq fun i hi => by
    rw [getLsbD_lanes _ _ _ _ hE, getLsbD_elem, Nat.div_add_mod]
    by_cases inside : i < E * n
    · simp [hi, inside, Nat.mod_lt i hE]
    · have above : v.getLsbD i = false :=
        Nat.testBit_lt_two_pow (hv.trans_le (Nat.pow_le_pow_right Nat.two_pos (Nat.not_lt.1 inside)))
      simp [above]

/-- With every element active the result is written whole. -/
theorem maskMerge_of_active {r : VecRow} {act : Nat → Bool} {z : Bool} {old res : Vec} (hact : ∀ j, act j = true)
    (hesz : 0 < r.esz) (hres : res.toNat < 2 ^ (r.esz * r.kl)) : maskMerge r act z old res = res := by
  simp only [maskMerge, hact, if_true]
  exact lanes_elem hesz hres

/-- Where a row has no masking, a legal encoding names no mask, so that every element is active (R173). -/
theorem active_of_unmasked {s : State} {r : VecRow} {e : Evex} {isMem : Bool} (hr : r.masking = .none)
    (h : evexLegal r e isMem = true) (j : Nat) : active s e.aaa j = true := by
  have hk : e.aaa = 0#3 := by
    simp only [evexLegal, hr, Bool.and_eq_true, decide_eq_true_eq] at h
    obtain ⟨⟨-, hk, -⟩, -⟩ := h
    exact hk
  simp [active, hk]

section
variable {w : Nat} {r : VecRow} {val : Vec → Vec → Nat → BitVec w} {mk : Evex → Rm → Instr}
  {rows : List (Evex → Rm → Instr)}

/-- An EVEX row without masking, whatever the width of its masking element. -/
theorem evexComputesAll_lanes (hform : r.form = .evex) (hmask : r.masking = .none) (hesz : FillsVector r.esz r.vl)
    (hfill : FillsVector w r.vl) (h : EvexLanes (fun _ => val) mk r) : EvexComputesAll w [mk] val := by
  intro mk' hmk e rm s u r' b hr hready hsrc
  obtain rfl := List.mem_singleton.1 hmk
  obtain rfl := Option.some.inj ((h.row e rm).symm.trans hr)
  obtain ⟨hpos, hle, hvl⟩ := hfill
  obtain ⟨hesz, -, hkl⟩ := hesz
  obtain ⟨hlegal, -⟩ := vecReady_ok.mp hready
  obtain ⟨t, hnext, hframe, hdest⟩ := runEvex_next (op := fun _ a b => lanes w (r.vl / w) (val a b)) hform hready hsrc
  have helems := hasElems_lanes w r.vl (val (s.vec e.vvvv) b) hpos hle hvl
  refine ⟨t, (h.meaning e rm s).trans hnext, ?_, hframe⟩
  rw [hdest, maskMerge_of_active (active_of_unmasked hmask hlegal) hesz (hkl.symm ▸ helems.2)]
  exact helems

theorem EvexComputesAll.cons (h : EvexComputesAll w [mk] val) (hs : EvexComputesAll w rows val) :
    EvexComputesAll w (mk :: rows) val :=
  List.forall_mem_cons.2 ⟨h mk (List.mem_singleton_self mk), hs⟩

/-- The rows of an instruction without masking at the three vector lengths. -/
theorem evexComputesAll_lengths {mk128 mk256 mk512 : Evex → Rm → Instr} {cell128 cell256 cell512 : List Feature}
    {esz bcast : Nat} {suppress nds : Bool} (hesz : ∀ vl ∈ [128, 256, 512], FillsVector esz vl)
    (hfill : ∀ vl ∈ [128, 256, 512], FillsVector w vl)
    (h128 : EvexLanes (fun _ => val) mk128 (evexRow cell128 128 esz bcast suppress nds .none))
    (h256 : EvexLanes (fun _ => val) mk256 (evexRow cell256 256 esz bcast suppress nds .none))
    (h512 : EvexLanes (fun _ => val) mk512 (evexRow cell512 512 esz bcast suppress nds .none)) :
    EvexComputesAll w [mk128, mk256, mk512] val :=
  .cons (evexComputesAll_lanes rfl rfl (hesz 128 (by simp)) (hfill 128 (by simp)) h128) <|
    .cons (evexComputesAll_lanes rfl rfl (hesz 256 (by simp)) (hfill 256 (by simp)) h256) <|
      evexComputesAll_lanes rfl rfl (hesz 512 (by simp)) (hfill 512 (by simp)) h512

end

/-! ### VAES (46_vaes_vpclmulqdq.md R405 to R408) -/

/-- Settles O22: the operation of every row is its round function lane by lane. -/
theorem aesResults : Obligations.AesResults := by
  refine ⟨?_, ?_, ?_, ?_, ?_, ?_, ?_, ?_⟩
  iterate 4
    exact evexComputesAll_lengths (by decide) (by decide) ⟨fun _ _ => rfl, fun _ _ _ => rfl⟩
      ⟨fun _ _ => rfl, fun _ _ _ => rfl⟩ ⟨fun _ _ => rfl, fun _ _ _ => rfl⟩
  iterate 4
    exact vexComputes_lanes (by decide) (fun _ _ => rfl) fun _ _ _ => rfl

/-! ### VPCLMULQDQ (R409, R412) -/

/-- The half of lane `i` is a quadword of the vector. -/
theorem quadOf_elem (x : Vec) (i : Nat) (hi : Bool) :
    quadOf (elem 128 x i) hi = if hi then elem 64 x (2 * i + 1) else elem 64 x (2 * i) :=
  BitVec.eq_of_getLsbD_eq fun j hj => by
    have low : 128 * i + j = 64 * (2 * i) + j := by omega
    have high : 128 * i + (64 + j) = 64 * (2 * i + 1) + j := by omega
    rw [quadOf, BitVec.getLsbD_extractLsb', getLsbD_elem]
    cases hi
    · simp only [Bool.false_eq_true, if_false, getLsbD_elem, Nat.zero_add, low, hj, show j < 128 by omega,
        decide_true, Bool.true_and]
    · simp only [if_true, getLsbD_elem, high, hj, show 64 + j < 128 by omega, decide_true, Bool.true_and]

/-- Settles O23: the operation of every row multiplies the selected halves lane by lane. -/
theorem pclmulResults : Obligations.PclmulResults := fun imm => by
  simp only [← quadOf_elem]
  exact ⟨evexComputesAll_lengths (by decide) (by decide) ⟨fun _ _ => rfl, fun _ _ _ => rfl⟩
      ⟨fun _ _ => rfl, fun _ _ _ => rfl⟩ ⟨fun _ _ => rfl, fun _ _ _ => rfl⟩,
    vexComputes_lanes (by decide) (fun _ _ => rfl) fun _ _ _ => rfl⟩

end Sys2Proof.Machine
end

section
/-! The AES round steps and their inverses (46_vaes_vpclmulqdq.md R402 to R404): each step is known by the bytes it
gives; the column steps are circulant matrices over the field, which multiply as such. -/

namespace Sys2Proof.Machine

/-! ### A STATE and its bytes (R402) -/

theorem stateByte_stateOf (f : Nat → Byte) {n : Nat} (hn : n < 16) : stateByte (stateOf f) n = f n := by
  rw [← elem_lanes 8 16 f n (by decide) (by decide) hn]
  refine BitVec.eq_of_getLsbD_eq fun i hi => ?_
  rw [stateByte, stateOf, BitVec.getLsbD_extractLsb', BitVec.getLsbD_setWidth, getLsbD_elem]
  simp [show 8 * n + i < 128 by omega]

/-- A STATE is its 16 bytes. -/
theorem state_ext {a b : BitVec 128} (h : ∀ n < 16, stateByte a n = stateByte b n) : a = b :=
  BitVec.eq_of_getLsbD_eq fun i hi => by
    have bit := congrArg (·.getLsbD (i % 8)) (h (i / 8) (by omega))
    simpa [stateByte, Nat.mod_lt, Nat.div_add_mod] using bit

/-! ### Shifted rows (R402) -/

theorem stateByte_shiftRows (st : BitVec 128) {n : Nat} (hn : n < 16) :
    stateByte (shiftRows st) n = stateByte st (n % 4 + 4 * ((n / 4 + n % 4) % 4)) := stateByte_stateOf _ hn

theorem stateByte_invShiftRows (st : BitVec 128) {n : Nat} (hn : n < 16) :
    stateByte (invShiftRows st) n = stateByte st (n % 4 + 4 * ((n / 4 + 4 - n % 4) % 4)) := stateByte_stateOf _ hn

theorem invShiftRows_shiftRows (st : BitVec 128) : invShiftRows (shiftRows st) = st :=
  state_ext fun n hn => by
    rw [stateByte_invShiftRows _ hn, stateByte_shiftRows _ (by omega)]
    congr 1
    omega

/-! ### Substituted bytes (R403, R404) -/

theorem stateByte_subBytes (st : BitVec 128) {n : Nat} (hn : n < 16) :
    stateByte (subBytes st) n = sbox (stateByte st n) := stateByte_stateOf _ hn

theorem stateByte_invSubBytes (st : BitVec 128) {n : Nat} (hn : n < 16) :
    stateByte (invSubBytes st) n = invSbox (stateByte st n) := stateByte_stateOf _ hn

/-- The printed table of `INVSBOX` against the formula of `SBOX`: a computation for each of the 256 bytes. -/
theorem invSbox_sbox : ∀ x : Byte, invSbox (sbox x) = x := by decide +kernel

theorem invSubBytes_subBytes (st : BitVec 128) : invSubBytes (subBytes st) = st :=
  state_ext fun n hn => by rw [stateByte_invSubBytes _ hn, stateByte_subBytes _ hn, invSbox_sbox]

/-! ### Mixed columns (R402) -/

theorem XorLinear.comp {f g : Byte → Byte} (hf : XorLinear f) (hg : XorLinear g) : XorLinear fun x => f (g x) :=
  fun x y => (congrArg f (hg x y)).trans (hf _ _)

theorem gf2p8mul_bits_assoc : ∀ i < 8, ∀ j < 8, ∀ k < 8,
    gf2p8mul (gf2p8mul (1#8 <<< i) (1#8 <<< j)) (1#8 <<< k) =
      gf2p8mul (1#8 <<< i) (gf2p8mul (1#8 <<< j) (1#8 <<< k)) := by decide +kernel

/-- Both sides are linear in each of the factors. -/
theorem gf2p8mul_assoc (x y z : Byte) : gf2p8mul (gf2p8mul x y) z = gf2p8mul x (gf2p8mul y z) :=
  ((gf2p8mul_xor_left z).comp (gf2p8mul_xor_left y)).ext (gf2p8mul_xor_left _) (fun i hi =>
    ((gf2p8mul_xor_left z).comp (gf2p8mul_xor_right _)).ext ((gf2p8mul_xor_right _).comp (gf2p8mul_xor_left z))
      (fun j hj => (gf2p8mul_xor_right _).ext ((gf2p8mul_xor_right _).comp (gf2p8mul_xor_right _))
        (gf2p8mul_bits_assoc i hi j hj) z) y) x

/-- The byte `k` rows below byte `n` in its column, turning round. -/
def columnByte (st : BitVec 128) (n k : Nat) : Byte := stateByte st ((n % 4 + k) % 4 + 4 * (n / 4))

theorem columnByte_zero (st : BitVec 128) (n : Nat) : columnByte st n 0 = stateByte st n := by
  rw [columnByte]
  congr 1
  omega

theorem columnByte_add_four (st : BitVec 128) (n k : Nat) : columnByte st n (k + 4) = columnByte st n k := by
  rw [columnByte, ← Nat.add_assoc, Nat.add_mod_right, columnByte]

section
variable (a b c d : Byte) (st : BitVec 128) {n : Nat} (hn : n < 16)
include hn

theorem stateByte_mixWith : stateByte (mixWith a b c d st) n =
    gf2p8mul a (columnByte st n 0) ^^^ gf2p8mul b (columnByte st n 1) ^^^ gf2p8mul c (columnByte st n 2) ^^^
      gf2p8mul d (columnByte st n 3) := stateByte_stateOf _ hn

theorem columnByte_mixWith (k : Nat) : columnByte (mixWith a b c d st) n k =
    gf2p8mul a (columnByte st n k) ^^^ gf2p8mul b (columnByte st n (k + 1)) ^^^
      gf2p8mul c (columnByte st n (k + 2)) ^^^ gf2p8mul d (columnByte st n (k + 3)) := by
  have turn (l : Nat) : columnByte st ((n % 4 + k) % 4 + 4 * (n / 4)) l = columnByte st n (k + l) := by
    rw [columnByte, columnByte]
    congr 1
    omega
  rw [columnByte, stateByte_mixWith _ _ _ _ _ (by omega)]
  simp only [turn, Nat.add_zero]

end

/-- Circulant matrices multiply to a circulant matrix. -/
theorem mixWith_mixWith (a b c d a' b' c' d' : Byte) (st : BitVec 128) :
    mixWith a b c d (mixWith a' b' c' d' st) =
      mixWith (gf2p8mul a a' ^^^ gf2p8mul b d' ^^^ gf2p8mul c c' ^^^ gf2p8mul d b')
        (gf2p8mul a b' ^^^ gf2p8mul b a' ^^^ gf2p8mul c d' ^^^ gf2p8mul d c')
        (gf2p8mul a c' ^^^ gf2p8mul b b' ^^^ gf2p8mul c a' ^^^ gf2p8mul d d')
        (gf2p8mul a d' ^^^ gf2p8mul b c' ^^^ gf2p8mul c b' ^^^ gf2p8mul d a') st :=
  state_ext fun n hn => by
    have left (z x y : Byte) : gf2p8mul (x ^^^ y) z = gf2p8mul x z ^^^ gf2p8mul y z := gf2p8mul_xor_left z x y
    have right (x y z : Byte) : gf2p8mul x (y ^^^ z) = gf2p8mul x y ^^^ gf2p8mul x z := gf2p8mul_xor_right x y z
    simp only [stateByte_mixWith _ _ _ _ _ hn, columnByte_mixWith _ _ _ _ _ hn, Nat.reduceAdd, columnByte_add_four,
      left, right, gf2p8mul_assoc]
    ac_rfl

/-- The unit circulant. -/
theorem mixWith_unit (st : BitVec 128) : mixWith 1#8 0#8 0#8 0#8 st = st :=
  state_ext fun n hn => by
    have zero (x : Byte) : gf2p8mul 0#8 x = 0#8 := (gf2p8mul_xor_left x).map_zero
    have one (x : Byte) : gf2p8mul 1#8 x = x := (gf2p8mul_comm _ _).trans (gf2p8mul_one x)
    simp only [stateByte_mixWith _ _ _ _ _ hn, zero, one, BitVec.xor_zero, columnByte_zero]

/-- IM times M is the unit circulant: a computation of its four coefficients. -/
theorem invMixColumns_mixColumns (st : BitVec 128) : invMixColumns (mixColumns st) = st :=
  (mixWith_mixWith ..).trans (mixWith_unit st)

/-- Settles O26: a permutation of bytes, a table and a matrix with their inverses. -/
theorem aesStepsInvert : Obligations.AesStepsInvert := fun st =>
  ⟨invShiftRows_shiftRows st, invSubBytes_subBytes st, invMixColumns_mixColumns st⟩

end Sys2Proof.Machine
end

section
/-! The carry-less product (46_vaes_vpclmulqdq.md R411): a bit of it is a sum of bits, the same from either end. -/

namespace Sys2Proof.Machine

/-! ### Sums of bits -/

/-- The XOR of `f j` over the `j` below `n`. -/
def xorSum (n : Nat) (f : Nat → Bool) : Bool := (List.range n).foldl (fun p j => p != f j) false

section
variable {n m : Nat} {f g : Nat → Bool}

theorem xorSum_succ (n : Nat) (f : Nat → Bool) : xorSum (n + 1) f = (xorSum n f ^^ f n) := by
  rw [xorSum, List.range_succ, List.foldl_append]
  rfl

theorem xorSum_succ' (n : Nat) (f : Nat → Bool) : xorSum (n + 1) f = (f 0 ^^ xorSum n fun j => f (j + 1)) := by
  induction n with
  | zero => rw [xorSum_succ]; exact Bool.xor_comm _ _
  | succ n ih => rw [xorSum_succ, ih, xorSum_succ, Bool.xor_assoc]

theorem xorSum_congr (h : ∀ j < n, f j = g j) : xorSum n f = xorSum n g :=
  List.foldl_ext _ _ _ fun p j hj => by rw [h j (List.mem_range.1 hj)]

/-- Terms that are 0 add nothing. -/
theorem xorSum_extend (hmn : m ≤ n) (h : ∀ j, m ≤ j → f j = false) : xorSum n f = xorSum m f := by
  induction n, hmn using Nat.le_induction with
  | base => rfl
  | succ n hmn ih => rw [xorSum_succ, ih, h n hmn, Bool.xor_false]

theorem xorSum_eq_false (h : ∀ j < n, f j = false) : xorSum n f = false :=
  (xorSum_congr h).trans (xorSum_extend (Nat.zero_le n) fun _ _ => rfl)

/-- A sum with one term. -/
theorem xorSum_single {k : Nat} (hk : k < n) (h : ∀ j, j ≠ k → f j = false) : xorSum n f = f k := by
  rw [xorSum_extend hk fun j hj => h j (by omega), xorSum_succ, xorSum_eq_false fun j hj => h j hj.ne, Bool.false_xor]

/-- The sum from the other end. -/
theorem xorSum_reflect (n : Nat) (f : Nat → Bool) : xorSum (n + 1) f = xorSum (n + 1) fun j => f (n - j) := by
  induction n with
  | zero => rfl
  | succ n ih =>
    rw [xorSum_succ, xorSum_succ' (n + 1), ih, Bool.xor_comm]
    simp only [Nat.add_sub_add_right, Nat.sub_zero]

end

/-! ### The bits of the product -/

/-- What places `j` of `x` and `i - j` of `y` add to bit `i` of the product (R411). -/
def productTerm (x y : Word64) (i j : Nat) : Bool := decide (j ≤ i) && x.getLsbD j && y.getLsbD (i - j)

section
variable (x y : Word64)

/-- The bit as the XOR of shifted operands gives it. -/
theorem getLsbD_pclmul128_shifts {i : Nat} (hi : i < 128) : (pclmul128 x y).getLsbD i =
    xorSum 64 (productTerm y x i) := by
  refine .trans (List.foldl_hom (·.getLsbD i) (init := 0#128) fun acc k => ?_).symm
    (congrArg (List.foldl _ · _) BitVec.getLsbD_zero)
  have shifted : (x.setWidth 128 <<< k).getLsbD i = (decide (k ≤ i) && x.getLsbD (i - k)) := by
    rw [BitVec.getLsbD_shiftLeft, BitVec.getLsbD_setWidth]
    by_cases hk : k ≤ i <;> simp [hk, hi, Nat.lt_of_not_le, show i - k < 128 by omega]
  cases hy : y.getLsbD k
  · simp [productTerm, hy]
  · simp only [productTerm, hy, if_true, BitVec.getLsbD_xor, shifted, Bool.and_true, Bool.bne_eq_xor]

theorem productTerm_of_le {i j : Nat} (h : j ≤ i) : productTerm x y i j = (x.getLsbD j && y.getLsbD (i - j)) := by
  simp [productTerm, h]

/-- The places of `x` and the places up to bit `i` give the same sum: a term outside either range is 0. -/
theorem xorSum_productTerm (i : Nat) : xorSum 64 (productTerm x y i) = xorSum (i + 1) (productTerm x y i) :=
  calc xorSum 64 (productTerm x y i) = xorSum (64 + (i + 1)) (productTerm x y i) :=
        (xorSum_extend (by omega) fun j hj => by simp [productTerm, BitVec.getLsbD_of_ge x j hj]).symm
    _ = xorSum (i + 1) (productTerm x y i) :=
        xorSum_extend (by omega) fun j hj => by simp [productTerm, show ¬ j ≤ i by omega]

/-- The terms of a bit are those of the product with its factors exchanged, from the other end. -/
theorem xorSum_productTerm_comm (i : Nat) : xorSum 64 (productTerm x y i) = xorSum 64 (productTerm y x i) := by
  rw [xorSum_productTerm, xorSum_productTerm, xorSum_reflect]
  refine xorSum_congr fun j hj => ?_
  rw [productTerm_of_le x y (Nat.sub_le i j), productTerm_of_le y x (Nat.le_of_lt_succ hj), Bool.and_comm,
    Nat.sub_sub_self (Nat.le_of_lt_succ hj)]

/-- Bit `i` is the sum of the products of bits whose places sum to `i` (R411). -/
theorem getLsbD_pclmul128 {i : Nat} (hi : i < 128) : (pclmul128 x y).getLsbD i = xorSum 64 (productTerm x y i) := by
  rw [getLsbD_pclmul128_shifts x y hi, xorSum_productTerm_comm]

theorem pclmul128_comm : pclmul128 x y = pclmul128 y x :=
  BitVec.eq_of_getLsbD_eq fun i hi => by
    rw [getLsbD_pclmul128 x y hi, getLsbD_pclmul128_shifts y x hi]

theorem getLsbD_pclmul128_top : (pclmul128 x y).getLsbD 127 = false := by
  rw [getLsbD_pclmul128 x y (by decide)]
  exact xorSum_eq_false fun j hj => by rw [productTerm, BitVec.getLsbD_of_ge y _ (by omega), Bool.and_false]

/-- Multiplication by one bit is a shift. -/
theorem pclmul128_twoPow {k : Nat} (hk : k < 64) : pclmul128 x (BitVec.twoPow 64 k) = x.setWidth 128 <<< k :=
  BitVec.eq_of_getLsbD_eq fun i hi => by
    rw [getLsbD_pclmul128_shifts x _ hi, xorSum_single hk fun j hj => by simp [productTerm, hj.symm]]
    by_cases h : k ≤ i <;> simp [productTerm, hk, h, hi]

end

/-- Settles O27: the sum of a bit is the same from either end, which gives its form and commutativity; the worked shifts
multiply by one bit. -/
theorem carrylessProductBits : Obligations.CarrylessProductBits :=
  ⟨fun x y _ hi => getLsbD_pclmul128 x y (hi.trans (by decide)), getLsbD_pclmul128_top,
    pclmul128_comm, by decide, fun x => (pclmul128_twoPow x (k := 0) (by decide)).trans (BitVec.shiftLeft_zero _),
    fun x => pclmul128_twoPow x (k := 1) (by decide), by decide, by decide⟩

end Sys2Proof.Machine
end

section
/-! The instructions whose rows give every element by itself: concatenate and shift (47_vbmi2.md R430 to R439), the dot
products of AVX512_VNNI (48_vnni.md R461 to R469), population count (49_bitalg_vpopcnt.md R482), and VPSHUFBITQMB, whose
destination is an opmask register (R485). -/

namespace Sys2Proof.Machine

/-! ### Concatenate and shift -/

/-- Settles O33: the operation of every row is its shift of the two sources element by element. -/
theorem concatShiftResults : Obligations.ConcatShiftResults := fun _ => by
  refine ⟨⟨?_, ?_, ?_⟩, ⟨?_, ?_, ?_⟩, ⟨?_, ?_, ?_⟩, ?_, ?_, ?_⟩
  iterate 12
    exact evexComputes_lengths (by decide) ⟨fun _ _ => rfl, fun _ _ _ => rfl⟩ ⟨fun _ _ => rfl, fun _ _ _ => rfl⟩
      ⟨fun _ _ => rfl, fun _ _ _ => rfl⟩

section
variable {w : Nat} (a b : BitVec w)

/-- A bit of the high half of two words shifted left together. -/
theorem getLsbD_shld {c i : Nat} (hi : i < w) :
    (shld a b c).getLsbD i = if c % w ≤ i then a.getLsbD (i - c % w) else b.getLsbD (w + i - c % w) := by
  have hc : c % w < w := Nat.mod_lt _ (by omega)
  simp only [shld, BitVec.getLsbD_extractLsb', BitVec.getLsbD_shiftLeft, BitVec.getLsbD_append]
  by_cases h : c % w ≤ i
  · have place : w + i - c % w - w = i - c % w := by omega
    simp [hi, h, place, show ¬ w + i < c % w by omega, show ¬ w + i - c % w < w by omega]
  · simp [hi, h, show ¬ w + i < c % w by omega, show w + i - c % w < w by omega]

/-- A bit of the low half of two words shifted right together. -/
theorem getLsbD_shrd {c i : Nat} (hi : i < w) :
    (shrd a b c).getLsbD i = if i + c % w < w then b.getLsbD (i + c % w) else a.getLsbD (i + c % w - w) := by
  simp [shrd, BitVec.getLsbD_append, hi, Nat.add_comm]

theorem shld_eq (c : Nat) :
    shld a b c = if c % w = 0 then a else a <<< (c % w) ||| b >>> (w - c % w) :=
  BitVec.eq_of_getLsbD_eq fun i hi => by
    rw [getLsbD_shld a b hi]
    by_cases h0 : c % w = 0
    · simp [h0]
    · have hc : c % w < w := Nat.mod_lt _ (by omega)
      rw [if_neg h0, BitVec.getLsbD_or, BitVec.getLsbD_shiftLeft, BitVec.getLsbD_ushiftRight]
      by_cases h : c % w ≤ i
      · have above : b.getLsbD (w - c % w + i) = false := BitVec.getLsbD_of_ge _ _ (by omega)
        simp [h, hi, above]
      · have place : w + i - c % w = w - c % w + i := by omega
        simp [h, place]

theorem shrd_eq (c : Nat) :
    shrd a b c = if c % w = 0 then b else b >>> (c % w) ||| a <<< (w - c % w) :=
  BitVec.eq_of_getLsbD_eq fun i hi => by
    rw [getLsbD_shrd a b hi]
    by_cases h0 : c % w = 0
    · simp [h0, hi]
    · rw [if_neg h0, BitVec.getLsbD_or, BitVec.getLsbD_shiftLeft, BitVec.getLsbD_ushiftRight, Nat.add_comm (c % w)]
      by_cases h : i + c % w < w
      · simp [h, show i < w - c % w by omega]
      · have above : b.getLsbD (i + c % w) = false := BitVec.getLsbD_of_ge _ _ (by omega)
        have place : i - (w - c % w) = i + c % w - w := by have := Nat.mod_lt c (show 0 < w by omega); omega
        simp [h, hi, above, place, show ¬ i < w - c % w by omega]

theorem shld_self (c : Nat) : shld a a c = a.rotateLeft (c % w) :=
  BitVec.eq_of_getLsbD_eq fun i hi => by
    rw [getLsbD_shld a a hi, BitVec.getLsbD_rotateLeft, Nat.mod_mod]
    by_cases h : c % w ≤ i
    · simp [h, hi, Nat.not_lt.mpr h]
    · have place : w + i - c % w = w - c % w + i := by have := Nat.mod_lt c (show 0 < w by omega); omega
      simp [h, Nat.lt_of_not_le h, place]

theorem shrd_self (c : Nat) : shrd a a c = a.rotateRight (c % w) :=
  BitVec.eq_of_getLsbD_eq fun i hi => by
    rw [getLsbD_shrd a a hi, BitVec.getLsbD_rotateRight, Nat.mod_mod]
    by_cases h : i + c % w < w
    · simp [h, show i < w - c % w by omega, Nat.add_comm]
    · have place : i - (w - c % w) = i + c % w - w := by have := Nat.mod_lt c (show 0 < w by omega); omega
      simp [h, hi, place, show ¬ i < w - c % w by omega]

end

/-- Settles O34. -/
theorem concatShiftFormulas : Obligations.ConcatShiftFormulas := fun _ a b c _ =>
  ⟨shld_eq a b c, shrd_eq a b c, shld_self a c, shrd_self a c⟩

/-! ### Dot products -/

/-- The bytes of a doubleword are those of the vector. -/
theorem extractLsb'_elem {E n F : Nat} (hEF : E * n = F) {j : Nat} (hj : j < n) (v : Vec) (i : Nat) :
    (elem F v i).extractLsb' (E * j) E = elem E v (n * i + j) := by
  subst hEF
  refine BitVec.eq_of_getLsbD_eq fun k hk => ?_
  have inside : E * j + k < E * n :=
    Nat.lt_of_lt_of_le (by rw [Nat.mul_succ]; omega : E * j + k < E * (j + 1)) (Nat.mul_le_mul_left E hj)
  rw [BitVec.getLsbD_extractLsb', getLsbD_elem, getLsbD_elem]
  simp [hk, inside, Nat.mul_add, Nat.mul_assoc, Nat.add_assoc]

/-- The sum of products of bytes of VPDPBUSD and VPDPBUSDS (R463). -/
theorem bytesDot_elem (a b : Vec) (i : Nat) : bytesDot (elem 32 a i) (elem 32 b i) =
    (elem 8 a (4 * i)).toNat * (elem 8 b (4 * i)).toInt + (elem 8 a (4 * i + 1)).toNat * (elem 8 b (4 * i + 1)).toInt +
      (elem 8 a (4 * i + 2)).toNat * (elem 8 b (4 * i + 2)).toInt +
      (elem 8 a (4 * i + 3)).toNat * (elem 8 b (4 * i + 3)).toInt := by
  have bytes (v : Vec) {j : Nat} (hj : j < 4) : (elem 32 v i).extractLsb' (8 * j) 8 = elem 8 v (4 * i + j) :=
    extractLsb'_elem rfl hj v i
  simp only [bytesDot, show List.range 4 = [0, 1, 2, 3] from rfl, List.map_cons, List.map_nil, List.foldr_cons,
    List.foldr_nil, bytes, Nat.reduceLT, Nat.add_zero, Int.add_zero, Int.add_assoc]

/-- The sum of products of words of VPDPWSSD and VPDPWSSDS (R467). -/
theorem wordsDot_elem (a b : Vec) (i : Nat) : wordsDot (elem 32 a i) (elem 32 b i) =
    (elem 16 a (2 * i)).toInt * (elem 16 b (2 * i)).toInt +
      (elem 16 a (2 * i + 1)).toInt * (elem 16 b (2 * i + 1)).toInt := by
  have words (v : Vec) {j : Nat} (hj : j < 2) : (elem 32 v i).extractLsb' (16 * j) 16 = elem 16 v (2 * i + j) :=
    extractLsb'_elem rfl hj v i
  simp only [wordsDot, show List.range 2 = [0, 1] from rfl, List.map_cons, List.map_nil, List.foldr_cons,
    List.foldr_nil, words, Nat.reduceLT, Nat.add_zero, Int.add_zero]

/-- Settles O35: the operation of every row is the sum of products of the two doublewords. -/
theorem dotProductResults : Obligations.DotProductResults := by
  simp only [Obligations.DotProductResults, ← bytesDot_elem, ← wordsDot_elem]
  constructor
  iterate 2
    exact evexComputes_lengths (by decide) ⟨fun _ _ => rfl, fun _ _ _ => rfl⟩ ⟨fun _ _ => rfl, fun _ _ _ => rfl⟩
      ⟨fun _ _ => rfl, fun _ _ _ => rfl⟩

/-- Signed saturation to 32 bits, case by case (R461). -/
theorem saturate_32 (x : Int) : saturate 32 x =
    if 2 ^ 31 - 1 < x then 0x7FFFFFFF#32 else if x < -2 ^ 31 then 0x80000000#32 else BitVec.ofInt 32 x := by
  rw [saturate]
  split
  · rw [show max (-2 ^ (32 - 1)) (min (2 ^ (32 - 1) - 1) x) = 2 ^ 31 - 1 by omega]
    rfl
  · split
    · rw [show max (-2 ^ (32 - 1)) (min (2 ^ (32 - 1) - 1) x) = -2 ^ 31 by omega]
      rfl
    · rw [show max (-2 ^ (32 - 1)) (min (2 ^ (32 - 1) - 1) x) = x by omega]

/-- Settles O36: the same rows, each sum saturated. -/
theorem saturatingDotProductResults : Obligations.SaturatingDotProductResults := by
  simp only [Obligations.SaturatingDotProductResults, ← bytesDot_elem, ← wordsDot_elem, ← saturate_32]
  constructor
  iterate 2
    exact evexComputes_lengths (by decide) ⟨fun _ _ => rfl, fun _ _ _ => rfl⟩ ⟨fun _ _ => rfl, fun _ _ _ => rfl⟩
      ⟨fun _ _ => rfl, fun _ _ _ => rfl⟩

/-! ### Population count -/

/-- Settles O37: the operation of every row counts the ones element by element. -/
theorem popcountResults : Obligations.PopcountResults := by
  refine ⟨?_, ?_, ?_, ?_⟩
  iterate 4
    exact evexComputes_lengths (by decide) ⟨fun _ _ => rfl, fun _ _ _ => rfl⟩ ⟨fun _ _ => rfl, fun _ _ _ => rfl⟩
      ⟨fun _ _ => rfl, fun _ _ _ => rfl⟩

/-! ### VPSHUFBITQMB -/

/-- The low six bits of a control byte as a number (R485). -/
theorem toNat_and_63 (x : Byte) : (x &&& 0x3F#8).toNat = x.toNat % 64 := by
  rw [BitVec.toNat_and]
  exact Nat.and_two_pow_sub_one_eq_mod x.toNat 6

theorem shuffleBitRow {mk : Evex → Rm → Instr}
    (hmk : mk ∈ [Instr.vpshufbitqmb128, .vpshufbitqmb256, .vpshufbitqmb512]) {e : Evex} {rm : Rm} {r : VecRow}
    (hr : (mk e rm).vecRow = some r) : r.kl = r.vl / 8 ∧ ∀ s, exec (mk e rm) s = runShufBit r e rm s := by
  simp only [List.mem_cons, List.not_mem_nil, or_false] at hmk
  rcases hmk with rfl | rfl | rfl
  all_goals
    cases hr
    exact ⟨rfl, fun _ => rfl⟩

/-- Settles O38. -/
theorem shuffleBitResults : Obligations.ShuffleBitResults := by
  intro mk hmk e rm s u r b hr hready hsrc
  obtain ⟨hkl, hexec⟩ := shuffleBitRow hmk hr
  obtain ⟨t, hnext, hframe, hmask⟩ := runShufBit_next hready hsrc
  refine ⟨t, (hexec s).trans hnext, hframe, fun n hn => ?_⟩
  rw [hmask, getLsbD_maskFrom, hkl, toNat_and_63, Nat.zero_add, shufBit]
  simp [hn, Bool.and_assoc]

end Sys2Proof.Machine
end

section
/-! VPCOMPRESSB/W and VPEXPANDB/W between registers and to memory (47_vbmi2.md R422 to R428): the list of active positions,
the place of a position in it, and the vectors both give. -/

namespace Sys2Proof.Machine

/-! ### Active positions -/

section
variable (r : VecRow) (act : Nat → Bool)

theorem activeCount_le : activeCount r act ≤ r.kl :=
  (List.length_filter_le ..).trans (Nat.le_of_eq List.length_range)

/-- The list of active positions up to an active one, that one, and the rest. -/
theorem activeList_split {j : Nat} (hj : j < r.kl) (hact : act j = true) :
    ∃ rest, activeList r act = (List.range j).filter act ++ j :: rest := by
  obtain ⟨d, hd⟩ := Nat.exists_eq_add_of_lt hj
  refine ⟨(((List.range d).map Nat.succ).map (j + ·)).filter act, ?_⟩
  rw [activeList, hd, Nat.add_assoc, List.range_add, List.filter_append, List.range_succ_eq_map, List.map_cons,
    List.filter_cons_of_pos (by simpa using hact), Nat.add_zero]

/-- An active position stands in the list at the place that is the number of active positions below it. -/
theorem activeList_getD_rankOf {j : Nat} (hj : j < r.kl) (hact : act j = true) :
    rankOf act j < activeCount r act ∧ (activeList r act).getD (rankOf act j) 0 = j := by
  obtain ⟨rest, h⟩ := activeList_split r act hj hact
  rw [activeCount, h]
  simp [rankOf]

/-- An element of what compressing packs at the low end (R422). -/
theorem elem_packed (src : Vec) (hw : 0 < r.esz) (hv : r.esz * r.kl ≤ 512) {k : Nat} (hk : k < r.kl) :
    elem r.esz (packed r act src) k =
      if k < activeCount r act then elem r.esz src ((activeList r act).getD k 0) else 0 := by
  rw [packed, elem_lanes _ _ _ _ hw hv hk]
  rfl

end

/-- Settles O32: the place an active element is packed to is the one expanding takes it from. -/
theorem expandUndoesCompress : Obligations.ExpandUndoesCompress := by
  intro r act x hw hd hv
  have whole : r.esz * r.kl ≤ 512 := hd.le.trans hv
  refine (hasElems_maskMerge r act true _ _ hw hv hd).congr fun j hj => ?_
  by_cases hact : act j = true
  · obtain ⟨hplace, hback⟩ := activeList_getD_rankOf r act hj hact
    rw [if_pos hact, if_pos hact, elem_expanded _ hw whole hj hact,
      elem_packed r act x hw whole (hplace.trans_le (activeCount_le r act)), if_pos hplace, hback]
  · rw [if_neg hact, if_neg hact]
    rfl

/-! ### The rows -/

/-- The shape of a row of compress or expand: elements of `w` bits that fill `vl` bits, displacements of one element. -/
structure PackShape (w vl : Nat) (r : VecRow) : Prop where
  esz : r.esz = w
  length : r.vl = vl
  form : r.form = .evex
  disp8 : r.disp8 = w / 8
  bytes : w = 8 * (w / 8)
  width : 0 < w / 8
  fits : vl ≤ 512
  divides : w * (vl / w) = vl

theorem packShape_packRow (cell : List Feature) (masking : Masking) {w vl : Nat} (hw : w = 8 ∨ w = 16)
    (hvl : vl = 128 ∨ vl = 256 ∨ vl = 512) : PackShape w vl (packRow cell vl w masking) := by
  refine ⟨rfl, rfl, rfl, rfl, ?_, ?_, ?_, ?_⟩
  all_goals rcases hw with rfl | rfl <;> rcases hvl with rfl | rfl | rfl <;> decide

section
variable {α : Type} {w vl : Nat} {r : VecRow}

/-- The rows of an instruction with two element widths and three vector lengths, by constructor. -/
def packRows (b128 b256 b512 w128 w256 w512 : Evex → α → Instr) : List (Nat × Nat × (Evex → α → Instr)) :=
  [(8, 128, b128), (8, 256, b256), (8, 512, b512), (16, 128, w128), (16, 256, w256), (16, 512, w512)]

/-- The instruction takes the course `run`, with a row of this shape. -/
structure PacksBy (run : VecRow → Evex → α → State → Host.Outcome State Fault Refusal) (w vl : Nat)
    (mk : Evex → α → Instr) (r : VecRow) : Prop where
  shape : PackShape w vl r
  course : ∀ e x s, exec (mk e x) s = run r e x s

theorem compressReg_packsBy {c : Nat × Nat × (Evex → VReg → Instr)} (hc : c ∈ packRows .vpcompressbReg128
    .vpcompressbReg256 .vpcompressbReg512 .vpcompresswReg128 .vpcompresswReg256 .vpcompresswReg512) {e : Evex} {d : VReg}
    (hr : (c.2.2 e d).vecRow = some r) : PacksBy runCompressReg c.1 c.2.1 c.2.2 r := by
  simp only [packRows, List.mem_cons, List.not_mem_nil, or_false] at hc
  rcases hc with rfl | rfl | rfl | rfl | rfl | rfl
  all_goals
    cases hr
    exact ⟨packShape_packRow _ _ (by decide) (by decide), fun _ _ _ => rfl⟩

theorem expandReg_packsBy {c : Nat × Nat × (Evex → VReg → Instr)} (hc : c ∈ packRows .vpexpandbReg128
    .vpexpandbReg256 .vpexpandbReg512 .vpexpandwReg128 .vpexpandwReg256 .vpexpandwReg512) {e : Evex} {x : VReg}
    (hr : (c.2.2 e x).vecRow = some r) : PacksBy runExpandReg c.1 c.2.1 c.2.2 r := by
  simp only [packRows, List.mem_cons, List.not_mem_nil, or_false] at hc
  rcases hc with rfl | rfl | rfl | rfl | rfl | rfl
  all_goals
    cases hr
    exact ⟨packShape_packRow _ _ (by decide) (by decide), fun _ _ _ => rfl⟩

theorem compressMem_packsBy {c : Nat × Nat × (Evex → Mem → Instr)} (hc : c ∈ packRows .vpcompressbMem128
    .vpcompressbMem256 .vpcompressbMem512 .vpcompresswMem128 .vpcompresswMem256 .vpcompresswMem512) {e : Evex} {m : Mem}
    (hr : (c.2.2 e m).vecRow = some r) : PacksBy runCompressMem c.1 c.2.1 c.2.2 r := by
  simp only [packRows, List.mem_cons, List.not_mem_nil, or_false] at hc
  rcases hc with rfl | rfl | rfl | rfl | rfl | rfl
  all_goals
    cases hr
    exact ⟨packShape_packRow _ _ (by decide) (by decide), fun _ _ _ => rfl⟩

end

/-! ### Compress and expand between registers -/

/-- Settles O28. -/
theorem compressRegister : Obligations.CompressRegister := by
  rintro ⟨w, vl, mk⟩ hc e d s r hr hready
  obtain ⟨⟨rfl, rfl, hform, -, hbytes, hwidth, hfits, hdiv⟩, hcourse⟩ := compressReg_packsBy hc hr
  have hw : 0 < r.esz := by omega
  obtain ⟨t, hnext, hframe, hv⟩ := runCompressReg_next (dst := d) hform hready
  refine ⟨t, (hcourse e d s).trans hnext, hframe, ?_⟩
  rw [hv]
  refine (hasElems_maskMerge r _ _ _ _ hw hfits hdiv).congr fun k hk => ?_
  rw [elem_packed r _ _ hw (hdiv.le.trans hfits) hk]
  simp only [decide_eq_true_eq]
  by_cases hact : k < activeCount r (active s e.aaa)
  · simp only [if_pos hact]
    exact (if_pos hact).symm
  · rw [if_neg hact]
    exact (if_neg hact).symm

/-- Settles O29. -/
theorem expandRegister : Obligations.ExpandRegister := by
  rintro ⟨w, vl, mk⟩ hc e x s r hr hready
  obtain ⟨⟨rfl, rfl, hform, -, hbytes, hwidth, hfits, hdiv⟩, hcourse⟩ := expandReg_packsBy hc hr
  have hw : 0 < r.esz := by omega
  obtain ⟨t, hnext, hframe, hv⟩ := runExpandReg_next (src := x) hform hready
  refine ⟨t, (hcourse e x s).trans hnext, hframe, ?_⟩
  rw [hv]
  refine (hasElems_maskMerge r _ _ _ _ hw hfits hdiv).congr fun j hj => ?_
  by_cases hact : active s e.aaa j = true
  · rw [if_pos hact, if_pos hact, elem_expanded _ hw (hdiv.le.trans hfits) hj hact]
    rfl
  · rw [if_neg hact, if_neg hact]

/-! ### Compress to memory -/

/-- A byte of a vector is a byte of its element of `k` bytes. -/
theorem elem_8_eq_extractLsb' {w k : Nat} (hw : w = 8 * k) (hk : 0 < k) (v : Vec) (n : Nat) :
    elem 8 v n = (elem w v (n / k)).extractLsb' (8 * (n % k)) 8 := by
  rw [extractLsb'_elem hw.symm (Nat.mod_lt n hk), Nat.div_add_mod]

theorem bytesOfVec_getD (v : Vec) {n i : Nat} (hi : i < n) : (bytesOfVec v n).getD i 0#8 = elem 8 v i :=
  getD_map_range _ _ hi

section
variable {w vl : Nat} {r : VecRow} {e : Evex} {m : Mem} {s u : State} {pas : List Nat}

/-- A byte of the packed elements. -/
theorem elem_8_packed (h : PackShape w vl r) (act : Nat → Bool) (src : Vec) {n : Nat}
    (hn : n < activeCount r act * (w / 8)) : elem 8 (packed r act src) n =
      (elem w src ((activeList r act).getD (n / (w / 8)) 0)).extractLsb' (8 * (n % (w / 8))) 8 := by
  obtain ⟨rfl, rfl, -, -, hbytes, hwidth, hfits, hdiv⟩ := h
  have hact : n / (r.esz / 8) < activeCount r act := (Nat.div_lt_iff_lt_mul hwidth).mpr hn
  rw [elem_8_eq_extractLsb' hbytes hwidth, elem_packed r act src (by omega) (hdiv.le.trans hfits)
    (hact.trans_le (activeCount_le r act)), if_pos hact]

/-- The write of a compress to memory. -/
def compressAccess : Access := { Access.store with multiWrite := true }

/-- Where no element is active nothing is written (R424). -/
theorem runCompressMem_none (hr : vecReady s r (evexLegal r e true) = .ok ())
    (hn : activeCount r (active s e.aaa) = 0) : runCompressMem r e m s = .next s.complete := by
  simp only [runCompressMem, hr, hn, ok_bind, Nat.zero_mul, if_true, finish_pure]

/-- Else the bytes of the packed elements are. -/
theorem runCompressMem_next (h : PackShape w vl r) (hr : vecReady s r (evexLegal r e true) = .ok ())
    (hn : activeCount r (active s e.aaa) ≠ 0)
    (hloc : locate s compressAccess (memSeg s e.pfx m) (memOff s e.pfx (w / 8) m)
      (activeCount r (active s e.aaa) * (w / 8)) = .ok (pas, u)) :
    ∃ t, runCompressMem r e m s = .next t ∧ FrameStore pas s t ∧
      (pas.Nodup → ∀ n, n < activeCount r (active s e.aaa) * (w / 8) →
        t.byte (pas.getD n 0) = elem 8 (packed r (active s e.aaa) (s.vec e.reg)) n) := by
  obtain ⟨rfl, -, -, hdisp, -, hwidth, -, -⟩ := h
  obtain ⟨checked, hlen, -⟩ := locate_spec hloc
  have hne : activeCount r (active s e.aaa) * (r.esz / 8) ≠ 0 := Nat.mul_ne_zero hn hwidth.ne'
  have written := writeMem_of_locate (bs := bytesOfVec (packed r (active s e.aaa) (s.vec e.reg))
    (activeCount r (active s e.aaa) * (r.esz / 8))) (by rw [bytesOfVec_length]; exact hloc)
  simp only [compressAccess] at written
  refine ⟨_, by simp only [runCompressMem, hr, hdisp, written, hne, ok_bind, if_false]; rfl,
    frameStore_storeOwn checked pas _ (by rwa [bytesOfVec_length]), fun hd n hn => ?_⟩
  rw [State.byte_complete, u.byte_storeOwn_zip (by rwa [bytesOfVec_length]) hd (by rwa [bytesOfVec_length]),
    bytesOfVec_getD _ hn]

/-- An instruction that writes nothing but RIP stores nothing. -/
theorem frameStore_complete (s : State) : FrameStore [] s s.complete :=
  ⟨fun _ _ => rfl, fun _ => rfl, fun _ => rfl, fun _ => rfl, rfl, rfl, rfl, .inl rfl, rfl,
    ⟨rfl, rfl, rfl, rfl, rfl, rfl, rfl⟩, rfl⟩

end

/-- Settles O30. -/
theorem compressMemory : Obligations.CompressMemory := by
  rintro ⟨w, vl, mk⟩ hc e m s u r pas hr hready
  obtain ⟨hshape, hcourse⟩ := compressMem_packsBy hc hr
  have list : (List.range (vl / w)).filter (active s e.aaa) = activeList r (active s e.aaa) := by
    rw [activeList, VecRow.kl, hshape.length, hshape.esz]
  dsimp only
  rw [hcourse, list]
  refine ⟨fun hnone => ?_, fun hsome hloc => ?_⟩
  · exact ⟨_, runCompressMem_none hready (List.length_eq_zero_iff.mpr hnone), frameStore_complete s⟩
  · obtain ⟨t, hnext, hframe, hbyte⟩ := runCompressMem_next hshape hready (List.length_eq_zero_iff.not.mpr hsome) hloc
    exact ⟨t, hnext, hframe, fun hd n hn => (hbyte hd n hn).trans (elem_8_packed hshape _ _ hn)⟩

end Sys2Proof.Machine
end

section
/-! The availability checks stand first in every vector instruction (60_exceptions.md R606, R610 to R612, R627), and what a
mask of zeros leaves of a memory source (R613, R615; D22). -/

namespace Sys2Proof.Machine

/-! ### Availability -/

theorem vecRow_of_mem_movdiriRows {n : Nat} {i : Instr} {p : Pfx} {r : GReg} {m : Mem} (h : (n, i) ∈ movdiriRows p r m) :
    i.vecRow = none := by
  rcases List.mem_pair.mp h with h | h
  all_goals
    cases h
    rfl

/-- An instruction with a row of the table takes a course that begins with the checks for that row. -/
theorem Course.vecReady {i : Instr} {s : State} {o : Host.Outcome State Fault Refusal} (c : Course i s o) {r : VecRow}
    (h : i.vecRow = some r) : ∃ legal f, o = finish (vecReady s r legal >>= f) := by
  cases c with
  | evex _ _ hr | vex _ _ hr | sse _ _ _ hr | shufBit hr | compressReg _ hr | compressMem hr | expandReg _ hr
    | expandMem _ hr =>
    obtain rfl := Option.some.inj (hr.symm.trans h)
    exact ⟨_, _, rfl⟩
  | movdiri hi => rw [vecRow_of_mem_movdiriRows hi] at h; cases h
  | movdir64b hi | cpuid hi | cldemote hi | wbnoinvd hi | pconfig hi | tpause hi | umwait hi | umonitor hi =>
    subst hi
    cases h

theorem finish_vecReady_error {s : State} {r : VecRow} {legal : Bool} {f : Unit → Except Stop State} {x : Fault}
    (h : vecReady s r legal = .error (.fault x)) : finish (vecReady s r legal >>= f) = .fault x := by
  rw [h]
  rfl

/-- Settles O11: the first checks decide. -/
theorem vectorNeedsEnabledState : Obligations.VectorNeedsEnabledState := by
  intro i s r hrow
  obtain ⟨legal, f, hexec⟩ := (exec_course i s).vecReady hrow
  rw [hexec]
  refine ⟨fun hoff => ?_, fun hts => ?_, fun t hnext => ?_⟩
  · exact finish_vecReady_error (vecReady_ud (by rw [Bool.and_assoc, hoff, Bool.and_false]))
  · cases hready : vecReady s r legal with
    | ok =>
      obtain ⟨-, -, -, hclear⟩ := vecReady_ok.mp hready
      rw [hts] at hclear
      cases hclear
    | error e =>
      rcases vecReady_error hready with rfl | rfl
      · exact .inl rfl
      · exact .inr rfl
  · exact (vecReady_ok.mp (finish_vecReady_next hnext).1).2

/-! ### A mask of zeros -/

/-- No element is accessed where none is active (R614). -/
theorem readElems_none (s : State) (seg : Seg) (off : Word64) (k n j : Nat) :
    readElems s seg off k (fun _ => false) n j = .ok (List.replicate (n * k) 0#8, s) := by
  induction n generalizing j with
  | zero => simp [readElems]
  | succ n ih =>
    simp only [readElems, Bool.false_eq_true, if_false, ok_bind, ih]
    rw [Nat.succ_mul, Nat.add_comm, List.replicate_add]
    rfl

/-- A source whose faults are suppressed is not accessed under a mask of zeros (R613, R615). -/
theorem memSrc_none {r : VecRow} (hs : r.suppress = true) (s : State) (p : Pfx) (b : Bool) (m : Mem) :
    ∃ v, memSrc s r p b (fun _ => false) m = .ok (v, s) := by
  cases b with
  | true =>
    have none : (List.range r.kl).any (fun _ => false) = false := by simp
    exact ⟨0#512, by simp [memSrc, hs, none]⟩
  | false => exact ⟨_, by simp only [memSrc, hs, Bool.false_eq_true, if_false, if_true, readElems_none, ok_bind]; rfl⟩

/-- Without suppression the whole operand is accessed whatever the mask is, and its first byte's address faults. -/
theorem memSrc_of_not_canonical {s : State} {r : VecRow} {p : Pfx} {m : Mem} (hm : s.mode = .long) (hform : r.form = .evex)
    (hs : r.suppress = false) (hvl : 8 ≤ r.vl)
    (hc : canonical s.cfg.linAddrBits (linearAddress s (memSeg s p m) (memOff s p r.disp8 m)) = false)
    (act : Nat → Bool) : memSrc s r p false act m =
      .error (.fault (.exception (segmentExc (memSeg s p m)) (some 0#32) none)) := by
  have read := readMem_of_locate_error (locate_of_not_canonical hm (Nat.div_pos hvl (by decide)) hc (wholeLoad .evex))
  simp only [memSrc, hform, hs, Bool.false_eq_true, if_false, if_true, read, error_bind]

/-- Settles O40. -/
theorem faultSuppression : Obligations.FaultSuppression := fun s _ p m ⟨hmode, _, _, _⟩ hform =>
  ⟨fun hs b => memSrc_none hs s p b m, fun hs hvl hc act => memSrc_of_not_canonical hmode hform hs hvl hc act⟩

end Sys2Proof.Machine
end

section
/-! Sub-page write permissions: the walk of the sub-page-permission table with nothing cached, level by level, and what a
write inside one 128-byte region of a page without write access does (50_ept_sub_page_permissions.md R504 to R511). -/

namespace Sys2Proof.Machine

/-! ### The walk -/

/-- No entry of this level or one below is cached. -/
def State.UncachedTo (s : State) (level : Nat) : Prop := ∀ c ∈ s.vmx.sppCache, level < c.level

section
variable {s : State} {gpa n level : Nat}

theorem State.UncachedTo.sppKeep (h : s.UncachedTo (n + 1)) (v : Word64) : (s.sppKeep gpa (n + 1) v).UncachedTo n :=
  List.forall_mem_cons.2 ⟨Nat.lt_succ_self n, fun c hc => Nat.lt_of_succ_lt (h c hc)⟩

@[simp] theorem State.phys64_sppKeep (s : State) (gpa level : Nat) (v : Word64) (a : Nat) :
    (s.sppKeep gpa level v).phys64 a = s.phys64 a := rfl

@[simp] theorem State.sppKeep_cfg (s : State) (gpa level : Nat) (v : Word64) : (s.sppKeep gpa level v).cfg = s.cfg := rfl

/-- An entry that is not cached is read afresh (R517). -/
theorem sppEntry_of_uncached (h : s.UncachedTo level) (addr : Nat) :
    sppEntry s gpa level addr = (s.phys64 addr, s) := by
  have none : (s.vmx.sppCache.filter fun c => c.level == level && c.spptp == s.vmx.vmcs.spptp &&
      c.page == BitVec.ofNat 36 (gpa / 4096)) = [] :=
    List.filter_eq_nil_iff.mpr fun c hc => by simp [(h c hc).ne']
  simp only [sppEntry, none, List.map_nil]

theorem sppReserved_eq (m : Nat) (e : Word64) :
    sppReserved m e = (e.extractLsb' 1 11 != 0#11 || decide (2 ^ m ≤ e.toNat)) := by
  have above : (e.toNat / 2 ^ m != 0) = decide (2 ^ m ≤ e.toNat) := by
    rw [Bool.eq_iff_iff, bne_iff_ne, Nat.div_ne_zero_iff, decide_eq_true_iff]
    simp
  rw [sppReserved, above]

/-- Levels 4 to 2 (R506, R507). -/
theorem sppWalk_succ_fst (h : s.UncachedTo (n + 2)) (base : Word64) : (sppWalk s gpa base (n + 1)).1 =
    let e := s.phys64 (sppAddr base gpa (12 + 9 * (n + 1)))
    if (e.extractLsb' 1 11 != 0#11 || decide (2 ^ s.cfg.maxPhyAddr ≤ e.toNat)) then .misconfiguration
    else if e.getLsbD 0 = false then .miss
    else (sppWalk (s.sppKeep gpa (n + 2) e) gpa e n).1 := by
  simp only [sppWalk, sppEntry_of_uncached h, sppReserved_eq, bit, apply_ite Prod.fst, Bool.not_eq_true']

/-- Level 1. -/
theorem sppWalk_zero_fst (h : s.UncachedTo 1) (base : Word64) : (sppWalk s gpa base 0).1 =
    let e := s.phys64 (sppAddr base gpa 12)
    if e &&& 0xAAAAAAAAAAAAAAAA#64 ≠ 0#64 then .misconfiguration else .permissions e := by
  simp only [sppWalk, sppEntry_of_uncached h, sppReservedL1, apply_ite Prod.fst, bne_iff_ne]

end

/-- Settles O56: what the walk keeps of one level is not an entry of the next. -/
theorem subPageWalk : Obligations.SubPageWalk := by
  intro s gpa hcache
  have fresh4 : s.UncachedTo 4 := by simp [State.UncachedTo, hcache]
  dsimp only
  rw [sppLookup, sppWalk_succ_fst fresh4]
  dsimp only
  rw [sppWalk_succ_fst (fresh4.sppKeep _)]
  dsimp only
  rw [sppWalk_succ_fst ((fresh4.sppKeep _).sppKeep _)]
  dsimp only
  rw [sppWalk_zero_fst (((fresh4.sppKeep _).sppKeep _).sppKeep _)]
  rfl

/-! ### A write to a page without write access -/

section
variable {s : State} {e : EptEntry} {la : Word64} {gpa n : Nat}

/-- The check of a write off the APIC-access page and outside enclaves (R504). -/
theorem eptChunk_write (crosses : Bool) (hfind : eptFind s gpa = some e) (hmis : e.misconfigured = false)
    (hapic : s.onApicPage (s.physical (e.paBase + (gpa - e.gpaBase))) = false) (henc : s.vmx.enclaveMode = false) :
    eptChunk s .write false crosses la gpa n =
      if e.accW then .ok (s.physical (e.paBase + (gpa - e.gpaBase)), s)
      else (sppWrite s e (e.spp && decide (e.size = .k4) && s.sppOn) crosses la gpa n).map
        fun t => (s.physical (e.paBase + (gpa - e.gpaBase)), t) := by
  have outside : s.enclaveAccess (s.physical (e.paBase + (gpa - e.gpaBase))) = false := by
    simp [State.enclaveAccess, henc]
  unfold eptChunk
  simp only [hfind, hmis, hapic, outside]
  cases e.accW <;> simp

/-- Where the table does not decide, the write is an EPT violation (R504). -/
theorem sppWrite_of_off {spp : Bool} (h : (s.sppOn && decide (e.size = .k4) && spp) = false) (crosses : Bool) :
    sppWrite s e spp crosses la gpa n = .error (eptViolation s la gpa) := by
  simp only [sppWrite, h, Bool.false_eq_true, if_false]

/-- Bytes inside one 128-byte region are under that region's bit (R507). -/
theorem sppAllows_of_region (l1e : Word64) (hn : 0 < n) (hin : gpa % 128 + n ≤ 128) :
    sppAllows l1e gpa n = l1e.getLsbD (2 * (gpa % 4096 / 128)) := by
  have last : (gpa % 4096 + n - 1) / 128 = gpa % 4096 / 128 := by omega
  rw [sppAllows, last, Bool.eq_iff_iff, List.all_eq_true]
  constructor
  · intro h
    simpa using h (gpa % 4096 / 128) (List.mem_range.mpr (by omega))
  · intro h i _
    rcases Nat.lt_trichotomy i (gpa % 4096 / 128) with hi | rfl | hi
    · simp [hi]
    · simp [h]
    · simp [hi]

/-- The state an SPP-induced exit leaves for such a write (R510, R511; D41). -/
def State.sppExited (s : State) (isMiss : Bool) (la : Word64) (gpa : Nat) : State :=
  s.drawn.vmExitAt .sppInduced (if isMiss then 0x800#64 else 0#64) la (BitVec.ofNat 64 gpa)

theorem sppExit_of_region (hm : s.mode = .long) (hn : 0 < n) (hin : gpa % 128 + n ≤ 128) (isMiss : Bool) :
    sppExit s isMiss false la gpa n = .exit (s.sppExited isMiss la gpa) := by
  have first : sppByte s false gpa n = 0 := by
    have region : gpa / 128 = (gpa + n - 1) / 128 := by omega
    simp only [sppByte, Bool.not_false, decide_eq_true region, Bool.and_self, if_true]
  have here : advance s la 0 = la := by simp [advance, State.is64, hm]
  simp only [sppExit, first, here, Nat.add_zero, State.sppExited]

/-- The exit-reason field of a VM exit holds the number of its reason (60_exceptions.md R607). -/
theorem exitReasonField_eq {v : Vmcs} {k : BitVec 16} {failed : Bool} (hk : v.exitReason.number = some k)
    (hf : v.entryFailure = failed) : v.exitReasonField = some (BitVec.ofBool failed ++ (0#15 ++ k)) := by
  rw [Vmcs.exitReasonField, hk, hf]
  rfl

/-- It reports the write and leaves RIP and memory (R510, R511). -/
theorem State.sppExited_spec {u : State} (h : AfterChecks s u) (isMiss : Bool) :
    let t := u.sppExited isMiss la gpa
    t.vmx.vmcs.exitReasonField = some 66#32 ∧ t.vmx.vmcs.exitQualification = (if isMiss then 0x800#64 else 0#64) ∧
      t.vmx.vmcs.guestLinearAddress = la ∧ t.vmx.vmcs.guestPhysicalAddress = BitVec.ofNat 64 gpa ∧
      t.rip = s.rip ∧ SameMemory s t :=
  ⟨(exitReasonField_eq (k := 66#16) (failed := false) rfl rfl).trans (by decide), rfl, rfl, rfl, h.rip, h.byte⟩

end

/-- Settles O55. -/
theorem subPageDecision : Obligations.SubPageDecision := by
  intro s la gpa n e hmode hn hin hfind hmis hapic henc
  have chunk := eptChunk_write (la := la) (n := n) false hfind hmis hapic henc
  have looked : AfterChecks s (sppLookup s gpa).2 := sppWalk_spec 3 s gpa s.vmx.vmcs.spptp
  dsimp only
  refine ⟨fun hw => ?_, fun hw hoff => ?_, fun hw hon hsize hspp => ?_⟩
  · rw [chunk, hw]
    rfl
  · have off : (s.sppOn && decide (e.size = .k4) && (e.spp && decide (e.size = .k4) && s.sppOn)) = false := by
      rcases hoff with h | h | h <;> simp [h]
    rw [chunk, hw, sppWrite_of_off off]
    rfl
  · rw [chunk, hw]
    simp only [sppWrite, hon, hsize, hspp, decide_true, Bool.and_self, if_true, Bool.false_eq_true, if_false]
    generalize sppLookup s gpa = found at looked
    obtain ⟨result, u⟩ := found
    have exits (isMiss : Bool) := sppExit_of_region (s := u) (la := la)
      ((State.mode_congr looked.sys looked.rflags).trans hmode) hn hin isMiss
    cases result with
    | permissions l1e =>
      simp only [sppAllows_of_region l1e hn hin]
      split
      · rfl
      · rfl
    | miss =>
      simp only [exits]
      exact ⟨_, rfl, State.sppExited_spec looked true⟩
    | misconfiguration =>
      simp only [exits]
      exact ⟨_, rfl, State.sppExited_spec looked false⟩

end Sys2Proof.Machine
end

section
/-! VM entry: a failed control check, a failed guest-state check or the guest's start (50_ept_sub_page_permissions.md R520,
R521; 51_intel_pt_vmx.md R543, R544, R556). -/

namespace Sys2Proof.Machine

/-! ### The checks -/

theorem decide_toNat_div_ne_zero (v : Word64) (m : Nat) : decide (v.toNat / 2 ^ m ≠ 0) = decide (2 ^ m ≤ v.toNat) := by
  rw [decide_eq_decide, Nat.div_ne_zero_iff]
  simp

theorem decide_low12_ne_zero (v : Word64) : decide (v.setWidth 12 ≠ 0#12) = decide (v.toNat % 4096 ≠ 0) := by
  rw [decide_eq_decide, not_iff_not, ← BitVec.toNat_inj, BitVec.toNat_setWidth]
  rfl

section
variable {s : State}

/-- Controls that pass the checks are ones that the processor supports (R521, R544). -/
theorem supported_of_controls (h : entryControlsBad s = false) :
    s.clearsRtit = s.vmx.vmcs.exitCtl.getLsbD 25 ∧ s.loadsRtit = s.vmx.vmcs.entryCtl.getLsbD 18 := by
  simp only [entryControlsBad, Bool.or_eq_false_iff] at h
  obtain ⟨⟨-, hclear⟩, hload⟩ := h
  constructor
  · rw [State.clearsRtit]
    cases hc : s.vmx.vmcs.exitCtl.getLsbD 25
    · rw [Bool.and_false]
    · rw [hc] at hclear; simpa using hclear
  · rw [State.loadsRtit]
    cases hc : s.vmx.vmcs.entryCtl.getLsbD 18
    · rw [Bool.and_false]
    · rw [hc] at hload; simpa using hload

/-- The guest-state checks, once the controls pass (51 R543). -/
theorem entryGuestBad_of_controls (h : entryControlsBad s = false) : entryGuestBad s =
    (s.vmx.vmcs.entryCtl.getLsbD 18 && (s.msr.rtitCtl.getLsbD 0 || !Config.rtitCtlValid s.vmx.vmcs.guestRtitCtl)) := by
  rw [entryGuestBad, (supported_of_controls h).2]
  rfl

theorem State.loadGuest_msr (s : State) : s.loadGuest.msr = { s.msr with
    rtitCtl := if s.loadsRtit && Config.rtitCtlValid s.vmx.vmcs.guestRtitCtl then s.vmx.vmcs.guestRtitCtl
      else s.msr.rtitCtl } := by
  unfold State.loadGuest
  dsimp only
  split <;> rfl

theorem State.loadGuest_clearsRtit (s : State) : s.loadGuest.clearsRtit = s.clearsRtit := by
  simp only [State.clearsRtit, State.exitClearSupported, State.loadGuest_cfg, State.loadGuest_msr, State.loadGuest_vmx]

/-- Addresses after RIP depend on RIP and on the mode (10_state.md R35). -/
theorem ripPlus_congr {t : State} (hsys : t.sys = s.sys) (hflags : t.rflags = s.rflags) (hrip : t.rip = s.rip) (n : Nat) :
    ripPlus t n = ripPlus s n := by
  have is64 : t.is64 = s.is64 := by rw [State.is64, State.is64, State.mode_congr hsys hflags]
  unfold ripPlus
  rw [is64, hsys, hrip]

/-! ### The three outcomes -/

/-- A failed VM entry sets ZF whatever the free flags are. -/
theorem getLsbD_vmFailFlags (f free : Word64) : (vmFailFlags f free).getLsbD 6 = true := by
  simp [vmFailFlags, flagBit, flagZF]

/-- A failed control check goes on with the next instruction (50 R520). -/
theorem vmEntry_of_badControls (h : entryControlsBad s = true) (len : Nat) :
    let t := vmEntry s len
    t.rflags.getLsbD 6 = true ∧ t.vmx.vmcs.vmInstructionError = 7#32 ∧ t.vmx.mode = s.vmx.mode ∧
      t.rip = ripPlus s len ∧ t.msr.rtitCtl = s.msr.rtitCtl := by
  simp only [vmEntry, h, if_true]
  exact ⟨getLsbD_vmFailFlags _ _, rfl, rfl, rfl, rfl⟩

/-- A failed guest-state check is an exit from the guest state loaded (51 R556). -/
theorem vmEntry_of_badGuest (h : entryControlsBad s = false) (hg : entryGuestBad s = true) (len : Nat) :
    let v := s.vmx.vmcs
    let t := vmEntry s len
    t.vmx.vmcs.exitReasonField = some 0x80000021#32 ∧ t.vmx.mode = .root ∧ t.vmx.handedOver = true ∧
      t.rip = v.guestRip ∧ t.msr.rtitCtl = if v.exitCtl.getLsbD 25 then 0#64
        else if Config.rtitCtlValid v.guestRtitCtl then v.guestRtitCtl else s.msr.rtitCtl := by
  obtain ⟨hclear, -⟩ := supported_of_controls h
  have hload : s.loadsRtit = true := (Bool.and_eq_true_iff.mp hg).1
  have loaded := congrArg Msrs.rtitCtl s.loadGuest_msr
  simp only [hload, Bool.true_and] at loaded
  simp only [vmEntry, h, hg, Bool.false_eq_true, if_false, if_true]
  refine ⟨(exitReasonField_eq (k := 33#16) (failed := true) rfl rfl).trans (by decide), rfl, rfl, rfl, ?_⟩
  rw [← hclear, ← loaded, ← s.loadGuest_clearsRtit]
  rfl

/-- Else the guest runs, with IA32_RTIT_CTL loaded where its control says so (51 R543). -/
theorem vmEntry_of_good (h : entryControlsBad s = false) (hg : entryGuestBad s = false) (len : Nat) :
    let v := s.vmx.vmcs
    let t := vmEntry s len
    t.vmx.mode = .nonRoot ∧ t.rip = v.guestRip ∧
      t.msr.rtitCtl = if v.entryCtl.getLsbD 18 then v.guestRtitCtl else s.msr.rtitCtl := by
  obtain ⟨-, hload⟩ := supported_of_controls h
  have loaded := congrArg Msrs.rtitCtl s.loadGuest_msr
  simp only [vmEntry, h, hg, Bool.false_eq_true, if_false]
  refine ⟨rfl, rfl, loaded.trans ?_⟩
  rw [hload]
  cases hc : s.vmx.vmcs.entryCtl.getLsbD 18 with
  | false => rfl
  | true =>
    have valid : Config.rtitCtlValid s.vmx.vmcs.guestRtitCtl = true := by
      simp only [entryGuestBad, hload, hc, Bool.true_and, Bool.or_eq_false_iff, Bool.not_eq_false'] at hg
      exact hg.2
    simp only [valid, Bool.and_self]

/-- No general register and no memory is written. -/
theorem vmEntry_same (s : State) (len : Nat) : SameGprs s (vmEntry s len) ∧ SameMemory s (vmEntry s len) := by
  rcases vmEntry_cases s len with h | h
  · rw [h]
    exact ⟨fun _ => rfl, fun _ => rfl⟩
  · exact ⟨State.gpr64_congr (by rw [h]), fun a => by simp only [State.byte, h.mem]⟩

end

/-- Settles O58. -/
theorem vmEntryChecks : Obligations.VmEntryChecks := by
  intro s len rest hroot
  let u : State := { { s with inputs := .vmEntry len :: rest }.tick with inputs := rest }
  have cfg : u.cfg = s.cfg := State.tick_cfg _
  have vmx : u.vmx = s.vmx := State.tick_vmx _
  have msr : u.msr = s.msr := State.tick_msr _
  have sys : u.sys = s.sys := State.tick_sys _
  have rip : u.rip = s.rip := State.tick_rip _
  have flags : u.rflags = s.rflags := State.tick_rflags _
  have next : ripPlus u len = ripPlus s len := ripPlus_congr sys flags rip len
  obtain ⟨gprs, mem⟩ := vmEntry_same u len
  have badControls := vmEntry_of_badControls (s := u) (len := len)
  have badGuest := vmEntry_of_badGuest (s := u) (len := len)
  have good := vmEntry_of_good (s := u) (len := len)
  have guest := entryGuestBad_of_controls (s := u)
  simp only [entryControlsBad, Vmcs.secondary, State.sppSupported, State.guestPtSupported, State.exitClearSupported,
    State.entryLoadSupported, bit, decide_toNat_div_ne_zero, decide_low12_ne_zero, cfg, vmx, msr, next, hroot]
    at badControls badGuest good guest
  refine ⟨vmEntry u len, ?_, badControls, fun h hg => badGuest h ((guest h).trans hg),
    fun h hg => good h ((guest h).trans hg), fun r => (gprs r).trans (State.gpr64_congr (State.tick_gpr _) r), fun a => ?_⟩
  · have root : u.vmx.mode = .root := vmx ▸ hroot
    exact if_pos root
  · exact (mem a).trans (by simp only [State.byte, u, State.tick_mem])

end Sys2Proof.Machine
end

section
/-! IA32_RTIT_CTL at VM exits: a step that hands control to the host, but for a failed VM entry, has saved the register and
cleared it where asked (51_intel_pt_vmx.md R541, R542, R544, R557). -/

namespace Sys2Proof.Machine

/-! ### What an exit saves -/

/-- `t` is past a VM exit that saved IA32_RTIT_CTL as `s` has it, where its field exists, and cleared it where asked. -/
structure RtitSaved (s t : State) : Prop where
  root : t.vmx.mode = .root
  saved : s.rtitFieldExists = true → t.vmx.vmcs.guestRtitCtl = s.msr.rtitCtl
  cleared : s.clearsRtit = true → t.msr.rtitCtl = 0#64

/-- What a VM exit does with IA32_RTIT_CTL is the same from either state. -/
structure SameRtit (s u : State) : Prop where
  cfg : u.cfg = s.cfg
  msr : u.msr = s.msr
  vmcs : u.vmx.vmcs = s.vmx.vmcs
  handedOver : u.vmx.handedOver = s.vmx.handedOver

theorem AfterChecks.sameRtit {s u : State} (h : AfterChecks s u) : SameRtit s u :=
  ⟨h.cfg, h.msr, by rw [h.vmx], h.handedOver⟩

theorem SameRtit.trans {s t u : State} (h : SameRtit s t) (k : SameRtit t u) : SameRtit s u :=
  ⟨k.cfg.trans h.cfg, k.msr.trans h.msr, k.vmcs.trans h.vmcs, k.handedOver.trans h.handedOver⟩

theorem SameRtit.of_vmx {s u : State} (hc : u.cfg = s.cfg) (hm : u.msr = s.msr) (hv : u.vmx = s.vmx) : SameRtit s u :=
  ⟨hc, hm, by rw [hv], by rw [hv]⟩

theorem RtitSaved.of_sameRtit {s u t : State} (h : SameRtit s u) (k : RtitSaved u t) : RtitSaved s t := by
  obtain ⟨hc, hm, hv, -⟩ := h
  obtain ⟨root, saved, cleared⟩ := k
  simp only [State.rtitFieldExists, State.clearsRtit, State.exitClearSupported, State.entryLoadSupported, hc, hm, hv]
    at saved cleared
  exact ⟨root, saved, cleared⟩

theorem State.vmExit_rtitSaved (s : State) (reason : ExitReason) (qual : Word64) : RtitSaved s (s.vmExit reason qual) :=
  ⟨rfl, fun e => if_pos e, fun e => if_pos e⟩

theorem ExitOf.rtitSaved {s t : State} (h : ExitOf s t) : RtitSaved s t := by
  cases h with
  | plain h reason qual => exact (State.vmExit_rtitSaved _ reason qual).of_sameRtit h.sameRtit
  | located h => exact RtitSaved.of_sameRtit h.sameRtit ⟨rfl, fun e => if_pos e, fun e => if_pos e⟩

/-! ### What hands control over -/

/-- Control is with the host after only if it was before, or by an exit that saved IA32_RTIT_CTL. -/
def Handover (s t : State) : Prop := t.vmx.handedOver = true → s.vmx.handedOver = true ∨ RtitSaved s t

section
variable {s t u : State}

theorem RtitSaved.handover (h : RtitSaved s t) : Handover s t := fun _ => .inr h

theorem ExitOf.handover (h : ExitOf s t) : Handover s t := h.rtitSaved.handover

theorem Handover.of_kept (h : t.vmx.handedOver = s.vmx.handedOver) : Handover s t := fun ht => .inl (h ▸ ht)

theorem Handover.of_vmx (h : t.vmx = s.vmx) : Handover s t := .of_kept (by rw [h])

theorem Handover.of_sameRtit (h : SameRtit s u) (k : Handover u t) : Handover s t := fun ht =>
  (k ht).imp (fun hu => h.handedOver ▸ hu) (RtitSaved.of_sameRtit h)

/-- What follows an exit and leaves VMX state and IA32_RTIT_CTL alone. -/
theorem Handover.then (h : Handover s u) (hv : t.vmx = u.vmx) (hm : t.msr = u.msr) : Handover s t := fun ht =>
  (h (hv ▸ ht)).imp id fun ⟨root, saved, cleared⟩ => ⟨hv ▸ root, fun e => hv ▸ saved e, fun e => hm ▸ cleared e⟩

/-! ### Instructions -/

theorem State.tick_sameRtit (s : State) : SameRtit s s.tick := .of_vmx s.tick_cfg s.tick_msr s.tick_vmx

theorem State.begin_sameRtit (s : State) (len : Nat) : SameRtit s (s.begin len) := by
  have fetched := (s.fetched_spec.trans (touchCode_spec s.fetched len)).sameRtit
  exact ⟨fetched.cfg, fetched.msr, fetched.vmcs, fetched.handedOver⟩

theorem runInstruction_handover (h : runInstruction s = .next t) : Handover s t := by
  obtain ⟨-, hexit | ⟨i, len, -, hexec⟩⟩ := runInstruction_next h
  · exact .of_sameRtit s.tick_sameRtit hexit.handover
  · refine .of_sameRtit (s.tick_sameRtit.trans (s.tick.begin_sameRtit len)) ?_
    rcases (exec_effect hexec).next_or_left with ⟨-, kept⟩ | hexit
    · exact .of_kept kept
    · exact hexit.handover

/-! ### Intel PT output -/

theorem ptExit_rtitSaved (s : State) (reason : ExitReason) (gpa : Nat) : RtitSaved s (ptExit s reason gpa) :=
  ⟨rfl, fun e => if_pos e, fun e => if_pos e⟩

theorem ptMisconfigured_rtitSaved (s : State) : RtitSaved s (ptMisconfigured s) := ⟨rfl, fun e => if_pos e, fun e => if_pos e⟩

theorem ptTranslate_error_rtitSaved {k : AccessKind} {addr : Nat} (h : ptTranslate s k addr = .error t) :
    RtitSaved s t := by
  rcases ptTranslate_error h with ⟨reason, rfl⟩ | rfl
  · exact ptExit_rtitSaved ..
  · exact ptMisconfigured_rtitSaved s

theorem mapM_ptTranslate_error_rtitSaved {k : AccessKind} {addrs : List Nat}
    (h : addrs.mapM (ptTranslate s k) = .error t) : RtitSaved s t := by
  obtain ⟨a, -, h⟩ := mapM_error h
  exact ptTranslate_error_rtitSaved h

variable (s)

theorem ptOutput_handover (addr : Nat) (bytes : List Byte) : Handover s (ptOutput s addr bytes) := by
  unfold ptOutput
  split
  · split
    · split
      · rename_i h; exact (mapM_ptTranslate_error_rtitSaved h).handover
      · exact .of_vmx (s.storeByAgent_vmx _)
    · exact .of_vmx rfl
  · exact .of_vmx rfl

theorem ptRead_handover (addr len : Nat) : Handover s (ptRead s addr len) := by
  unfold ptRead
  split
  · split
    · rename_i h; exact (mapM_ptTranslate_error_rtitSaved h).handover
    · exact .of_vmx rfl
  · exact .of_vmx rfl

theorem ptLookup_handover (addr len : Nat) (stop : Bool) : Handover s (ptLookup s addr len stop) := by
  unfold ptLookup
  split
  · dsimp only
    split
    · rename_i h; exact (ptTranslate_error_rtitSaved h).handover
    · exact .of_vmx rfl
  · exact .of_vmx rfl

theorem ptAdvance_vmx : (ptAdvance s).vmx = s.vmx := by
  unfold ptAdvance
  split <;> rfl

theorem ptPmlFull_handover : Handover s (ptPmlFull s) := by
  unfold ptPmlFull
  split
  · exact .of_sameRtit (AfterChecks.drawn s).sameRtit (ptExit_rtitSaved ..).handover
  · exact .of_vmx rfl

/-! ### Other inputs -/

theorem vmfunc0_handover (len : Nat) (ept : List EptEntry) : Handover s (vmfunc0 s len ept) := by
  unfold vmfunc0
  split
  · exact RtitSaved.handover ⟨rfl, fun e => if_pos e, fun e => if_pos e⟩
  · exact .of_kept rfl

/-- An SMM exit clears the register where `G` is 1, whatever the control says (R557). -/
theorem smmExit_handover : Handover s (smmExit s) := by
  unfold smmExit
  dsimp only
  split
  · exact RtitSaved.handover ⟨rfl, fun e => if_pos e, fun _ => rfl⟩
  · exact RtitSaved.handover ⟨rfl, fun e => if_pos e, fun e => if_pos e⟩

theorem hfiUpdate_vmx (target : Nat) (rows : List HfiRow) (ts : Word64) (cp ce : Bool) :
    (hfiUpdate s target rows ts cp ce).vmx = s.vmx := by
  unfold hfiUpdate
  split
  · rfl
  · dsimp only
    split
    · exact s.storeByAgent_vmx _
    · rfl

theorem hfiAcknowledge_vmx : (hfiAcknowledge s).vmx = s.vmx := by
  unfold hfiAcknowledge
  split <;> rfl

theorem setMsr_vmx (m : MsrName) (v : Word64) : (setMsr s m v).vmx = s.vmx := by
  cases m with
  | hwFeedbackPtr => exact s.setHfiPtr_vmx v
  | hwFeedbackConfig => exact s.setHfiConfig_vmx v true
  | _ => rfl

theorem setTme_vmx (lock enable : Bool) (keyidBits : Nat) (algs : BitVec 16) (maxKeys : Nat) :
    (setTme s lock enable keyidBits algs maxKeys).vmx = s.vmx := by
  unfold setTme
  dsimp only
  split <;> rfl

theorem keyProgramByOther_vmx (id : Nat) (k : KeySlot) : (keyProgramByOther s id k).vmx = s.vmx := by
  obtain ⟨t, h, -⟩ := keyProgramByOther_spec s id k
  rw [h]

variable {s}

theorem Handover.softwareRan (h : u.vmx = s.vmx) : Handover s u.softwareRan :=
  .of_kept (by rw [← h]; rfl)

theorem loadRtit_handover {via : RtitLoad} {v : Word64} (h : loadRtit s via v = .next t) : Handover s t := by
  have loaded : (if msrLegal s .rtitCtl v then s.setRtit v else s).vmx = s.vmx := by split <;> rfl
  cases via with
  | msrLoadArea => cases h; exact .of_vmx loaded
  | rsm => cases h; exact .softwareRan loaded
  | xrstors =>
    simp only [loadRtit] at h
    split at h
    · cases h; exact .softwareRan rfl
    · split at h
      · cases h; exact .softwareRan rfl
      · cases h

theorem lockedAccess_handover {seg : Seg} {off : Word64} {bytes : List Byte} (h : lockedAccess s seg off bytes = .next t) :
    Handover s t := by
  unfold lockedAccess at h
  rcases finish_next h with h | h
  · cases hw : writeMem s Access.lockedWrite seg off bytes with
    | ok u =>
      rw [hw] at h
      cases h
      obtain ⟨pas, v, -, hv, -, -, rfl⟩ := writeMem_spec hw
      exact .of_kept ((congrArg Vmx.handedOver (v.storeOwn_vmx _)).trans hv.handedOver)
    | error e => rw [hw] at h; cases h
  · exact ((ExitsFrom.map _ (writeMem_exits ..)).exitOf t h).handover

/-- An input that gives a next state, but for a VM entry. -/
theorem applyInput_handover {i : Input} (h : applyInput i s = .next t) (hi : ∀ len, i ≠ .vmEntry len) : Handover s t := by
  cases i with
  | instruction => cases h; exact .of_vmx rfl
  | storeByAgent | storeMeanwhile => cases h; exact .of_vmx (s.storeByAgent_vmx _)
  | hfiUpdate => cases h; exact .of_vmx (hfiUpdate_vmx ..)
  | hfiAcknowledge => cases h; exact .of_vmx (hfiAcknowledge_vmx s)
  | senter => cases h; exact .of_vmx (s.drawn.setHfiConfig_vmx _ _)
  | wrmsr => obtain ⟨-, rfl⟩ := next_of_ite h (by intro h; cases h); exact .softwareRan (setMsr_vmx ..)
  | setTme => cases h; exact .softwareRan (setTme_vmx ..)
  | reset | init | hostResumes => cases h; exact fun ht => nomatch ht
  | setSys | setPaging | setVmx | setEnclaveMode | keyLock => cases h; exact .of_kept rfl
  | vmEntry len => exact absurd rfl (hi len)
  | invept => obtain ⟨-, rfl⟩ := next_of_ite h (by intro h; cases h); exact .of_kept rfl
  | vmfunc0 => obtain ⟨-, rfl⟩ := next_of_ite h (by intro h; cases h); exact vmfunc0_handover s _ _
  | ptOutput => cases h; exact ptOutput_handover s _ _
  | ptRead => cases h; exact ptRead_handover s _ _
  | ptLookup => cases h; exact ptLookup_handover s _ _ _
  | ptAdvance => cases h; exact .of_vmx (ptAdvance_vmx s)
  | loadRtit => exact loadRtit_handover h
  | ptPmlFull => cases h; exact ptPmlFull_handover s
  | smmExit => obtain ⟨-, rfl⟩ := next_of_ite h (by intro h; cases h); exact smmExit_handover s
  | lockedAccess => exact lockedAccess_handover h
  | keyProgram => cases h; exact .of_vmx (keyProgramByOther_vmx ..)

/-! ### Every step -/

theorem State.inputs_sameRtit (s : State) (rest : List Input) : SameRtit s { s with inputs := rest } :=
  ⟨rfl, rfl, rfl, rfl⟩

theorem State.storeEarly_sameRtit (s : State) (pa : Nat) (bytes : List Byte) : SameRtit s (s.storeEarly pa bytes) :=
  .of_vmx (s.storeEarly_cfg pa bytes) (s.storeEarly_msr pa bytes) (s.storeEarly_vmx pa bytes)

theorem StepCase.handover (c : StepCase s t) (hi : ∀ len, s.inputs.head? ≠ some (.vmEntry len)) : Handover s t := by
  cases c with
  | instruction _ h => exact .of_sameRtit (s.inputs_sameRtit _) (runInstruction_handover h)
  | storeMeanwhile _ h =>
    have ran := Handover.of_sameRtit ((s.inputs_sameRtit _).trans (State.storeEarly_sameRtit _ _ _))
      (runInstruction_handover h)
    exact ran.then (State.storeByAgent_vmx _ _) (State.storeByAgent_msr _ _)
  | input hs _ _ h =>
    exact .of_sameRtit (s.tick_sameRtit.trans (State.inputs_sameRtit _ _))
      (applyInput_handover h fun len e => hi len (by rw [hs, e]; rfl))

end

/-- Settles O57: whatever hands control to the host is such an exit. -/
theorem vmExitSavesTraceControl : Obligations.VmExitSavesTraceControl := by
  intro s t hstep hs ht hi
  obtain ⟨root, saved, cleared⟩ := ((step_next hstep).handover hi ht).resolve_left (by rw [hs]; exact Bool.false_ne_true)
  exact ⟨root, saved, fun hc he => cleared (Bool.and_eq_true_iff.mpr ⟨hc, he⟩)⟩

end Sys2Proof.Machine
end

section
/-! The hardware feedback agent: when an update happens, which bytes it writes and what it leaves
(52_hardware_feedback_interface.md R571, R573, R576 to R580). -/

namespace Sys2Proof.Machine

/-! ### The bytes of an update -/

/-- The bytes an update writes, in their order: the rows, the Changed bytes, the timestamp (R580, D50). -/
def hfiUpdateCells (c : Cfg) (base : Nat) (rows : List HfiRow) (ts : Word64) (cp ce : Bool) : List (Nat × Byte) :=
  hfiRowCells c base rows ++ hfiChanged c base (hfiRowCells c base rows) 0 cp ++
    hfiChanged c base (hfiRowCells c base rows) 1 ce ++ cellsAt base (timestampBytes ts)

@[simp] theorem timestampBytes_length (ts : Word64) : (timestampBytes ts).length = 8 := by simp [timestampBytes]

/-- The structure that starts at a base address (R573). -/
def InHfiStructure (c : Cfg) (base a : Nat) : Prop := base ≤ a ∧ a < base + 4096 * c.hfiPages

section
variable {c : Cfg} {base : Nat}

/-- The header lies in the first page (R571). -/
theorem inHfiStructure_header {k : Nat} (hk : k < 16) : InHfiStructure c base (base + k) := by
  have pages : 1 ≤ c.hfiPages := Nat.le_max_left _ _
  unfold InHfiStructure
  omega

theorem inHfiStructure_of_mem_rowCells {rows : List HfiRow} {x : Nat × Byte} (h : x ∈ hfiRowCells c base rows) :
    InHfiStructure c base x.1 := by
  simp only [hfiRowCells, List.mem_flatMap, List.mem_filter, decide_eq_true_eq, List.mem_append] at h
  obtain ⟨r, ⟨-, hr⟩, h⟩ := h
  have place : x.1 = base + 16 + 8 * r.row ∨ x.1 = base + 16 + 8 * r.row + 1 := by
    rcases h with h | h
    all_goals
      split at h
      · split at h
        · simp [List.mem_singleton.mp h]
        · cases h
      · cases h
  unfold InHfiStructure
  omega

theorem inHfiStructure_of_mem_changed {cells : List (Nat × Byte)} {k : Nat} (hk : k < 8) {clear : Bool} {x : Nat × Byte}
    (h : x ∈ hfiChanged c base cells k clear) : InHfiStructure c base x.1 := by
  have place : x.1 = base + (8 + k) := by
    unfold hfiChanged at h
    dsimp only at h
    split at h
    · rw [List.mem_singleton.mp h, Nat.add_assoc]
    · split at h
      · rw [List.mem_singleton.mp h, Nat.add_assoc]
      · cases h
  rw [place]
  exact inHfiStructure_header (by omega)

/-- An update writes inside its structure only (R580). -/
theorem inHfiStructure_of_mem_updateCells {rows : List HfiRow} {ts : Word64} {cp ce : Bool} {x : Nat × Byte}
    (h : x ∈ hfiUpdateCells c base rows ts cp ce) : InHfiStructure c base x.1 := by
  simp only [hfiUpdateCells, List.mem_append] at h
  rcases h with ((h | h) | h) | h
  · exact inHfiStructure_of_mem_rowCells h
  · exact inHfiStructure_of_mem_changed (by decide) h
  · exact inHfiStructure_of_mem_changed (by decide) h
  · have at_ : x.1 ∈ chunkBytes base 8 := timestampBytes_length ts ▸ cellsAt_fst base _ ▸ List.mem_map_of_mem h
    have ⟨base_le, lt⟩ := mem_chunkBytes.mp at_
    obtain ⟨k, e⟩ := Nat.exists_eq_add_of_le base_le
    have hk : k < 16 := by omega
    rw [e]
    exact inHfiStructure_header hk

end

/-! ### Stores of another agent -/

/-- A store changes no byte at an address it does not name. -/
theorem State.byte_storeByAgent_other (s : State) {cells : List (Nat × Byte)} {a : Nat} (h : ∀ x ∈ cells, x.1 ≠ a) :
    (s.storeByAgent cells).byte a = s.byte a := by
  simp only [State.byte, (s.storeByAgent_spec _).1]
  refine memByte_memSetMany_other _ _ _ fun hm => ?_
  obtain ⟨x, hx, e⟩ := List.mem_map.mp hm
  exact h x ((mem_cellsInside _ _ x).mp hx).1 e

theorem memSetMany_append (m : List Host.Cell) (xs ys : List (Nat × Byte)) :
    memSetMany m (xs ++ ys) = memSetMany (memSetMany m xs) ys := by
  induction xs generalizing m with
  | nil => rfl
  | cons x xs ih => exact ih _

/-- Of two stores in one the second has the last word. -/
theorem State.byte_storeByAgent_append (s : State) (xs ys : List (Nat × Byte)) (a : Nat) :
    (s.storeByAgent (xs ++ ys)).byte a = ((s.storeByAgent xs).storeByAgent ys).byte a := by
  simp only [State.byte, (State.storeByAgent_spec _ _).1, State.storeByAgent_cfg, cellsInside, List.filter_append,
    memSetMany_append]

/-! ### An update -/

/-- The state after an update of the structure at `base` (R580). -/
def State.hfiUpdated (s : State) (base : Nat) (rows : List HfiRow) (ts : Word64) (cp ce : Bool) : State :=
  let t := s.storeByAgent (hfiUpdateCells s.cfg base rows ts cp ce)
  { t with
    msr := { t.msr with packageThermStatus := setBit t.msr.packageThermStatus hfiStatusBit true }
    hfi := {
      interruptPending := t.hfi.interruptPending || bit t.msr.packageThermInterrupt hfiInterruptBit
      disabling := t.hfi.disabling && bit t.msr.hwFeedbackConfig 0
      inFlight := []
      lastTimestamp := ts } }

section
variable (s : State) (rows : List HfiRow) (ts : Word64) (cp ce : Bool)

/-- An update does not happen, or it goes to one of its targets (R580). -/
theorem hfiUpdate_cases (target : Nat) : hfiUpdate s target rows ts cp ce = s ∨
    ∃ base ∈ hfiTargets s, s.hfi.lastTimestamp ≤ ts ∧
      hfiUpdate s target rows ts cp ce = s.hfiUpdated base rows ts cp ce := by
  unfold hfiUpdate
  split
  · exact .inl rfl
  · rename_i b bs hb
    dsimp only
    split
    · rename_i hc
      have index : target % (b :: bs).length < (b :: bs).length := Nat.mod_lt _ (by simp)
      refine .inr ⟨(b :: bs).getD (target % (b :: bs).length) b, ?_, ?_, rfl⟩
      · rw [hb, ← List.getElem_eq_getD (h := index)]
        exact List.getElem_mem index
      · simp only [Bool.and_eq_true, decide_eq_true_eq] at hc
        exact hc.2
    · exact .inl rfl

variable {s}

/-- The structures an update may go to (R576, R577, R580). -/
theorem of_mem_hfiTargets {base : Nat} (h : base ∈ hfiTargets s) : s.cfg.features.hfi = true ∧
    s.msr.packageThermStatus.getLsbD 26 = false ∧
    (s.msr.hwFeedbackConfig.getLsbD 0 = true ∧ s.msr.hwFeedbackPtr.getLsbD 0 = true ∧ base = hfiBase s ∨
      base ∈ s.hfi.inFlight) := by
  unfold hfiTargets at h
  split at h
  · rename_i hc
    rw [Bool.and_eq_true, Bool.not_eq_true'] at hc
    refine ⟨hc.1, hc.2, (List.mem_append.mp h).imp (fun h => ?_) id⟩
    split at h
    · rename_i hready
      simp only [hfiReady, Bool.and_eq_true] at hready
      obtain ⟨⟨⟨-, hconfig⟩, hptr⟩, -⟩ := hready
      exact ⟨hconfig, hptr, List.mem_singleton.mp h⟩
    · cases h
  · cases h

/-- What an update leaves beside memory: the status bit, the interrupt event where enabled, none in progress, a disabling
acknowledged where the interface is disabled, the timestamp (R576 to R580). -/
theorem State.hfiUpdated_control (base : Nat) :
    let t := s.hfiUpdated base rows ts cp ce
    t.msr.packageThermStatus.getLsbD 26 = true ∧
      (s.msr.packageThermInterrupt.getLsbD 25 = true → t.hfi.interruptPending = true) ∧ t.hfi.inFlight = [] ∧
      (s.msr.hwFeedbackConfig.getLsbD 0 = false → t.hfi.disabling = false) ∧ t.hfi.lastTimestamp = ts := by
  refine ⟨?_, fun h => ?_, rfl, fun h => ?_, rfl⟩
  · exact (getLsbD_setBit _ (by decide) _ _).trans (if_pos rfl)
  · simp only [State.hfiUpdated, State.storeByAgent_msr, bit, hfiInterruptBit, h, Bool.or_true]
  · simp only [State.hfiUpdated, State.storeByAgent_msr, bit, h, Bool.and_false]

/-- A byte outside the structure is left alone. -/
theorem State.byte_hfiUpdated_other {base a : Nat} (h : ¬ InHfiStructure s.cfg base a) :
    (s.hfiUpdated base rows ts cp ce).byte a = s.byte a :=
  s.byte_storeByAgent_other fun _ hx e => h (e ▸ inHfiStructure_of_mem_updateCells hx)

/-- The timestamp stands in the first eight bytes (R571, R580). -/
theorem State.byte_hfiUpdated_timestamp {base i : Nat} (h : base + 8 ≤ 2 ^ s.cfg.maxPhyAddr) (hi : i < 8) :
    (s.hfiUpdated base rows ts cp ce).byte (base + i) = ts.extractLsb' (8 * i) 8 := by
  refine (s.byte_storeByAgent_append _ _ _).trans ?_
  rw [State.byte_storeByAgent_cellsAt (by simpa using h) (by simpa using hi)]
  exact getD_map_range _ _ hi

end

/-- Settles O59: memory differs only where an update happened. -/
theorem feedbackUpdate : Obligations.FeedbackUpdate := by
  intro s t target rows ts cp ce rest hstep hchanged
  let u : State := { { s with inputs := .hfiUpdate target rows ts cp ce :: rest }.tick with inputs := rest }
  have cfg : u.cfg = s.cfg := State.tick_cfg _
  have msr : u.msr = s.msr := State.tick_msr _
  have hfi : u.hfi = s.hfi := by simp [u, State.tick]
  have mem (a : Nat) : u.byte a = s.byte a := by simp only [State.byte, u, State.tick_mem]
  obtain rfl : hfiUpdate u target rows ts cp ce = t := Host.Outcome.next.inj hstep
  rcases hfiUpdate_cases u rows ts cp ce target with same | ⟨base, hbase, htime, updated⟩
  · obtain ⟨a, ha⟩ := hchanged
    rw [same] at ha
    exact absurd (mem a) ha
  · have targets := of_mem_hfiTargets hbase
    have control := u.hfiUpdated_control rows ts cp ce base
    have other (a : Nat) := u.byte_hfiUpdated_other rows ts cp ce (base := base) (a := a)
    have stamp (i : Nat) := u.byte_hfiUpdated_timestamp rows ts cp ce (base := base) (i := i)
    simp only [cfg, msr, hfi, hfiBase, mem] at targets control other stamp htime
    rw [updated]
    obtain ⟨feature, idle, target⟩ := targets
    obtain ⟨status, interrupt, landed, acknowledged, time⟩ := control
    refine ⟨feature, idle, status, interrupt, landed, acknowledged, ⟨base, target, fun a ha => ?_, fun h i => stamp i h⟩,
      htime, time⟩
    by_contra outside
    exact ha (other a outside)

end Sys2Proof.Machine
end
